-- ==== Sys2Proof/Word.lean ====
section
/-! DEFINITION. The word types of the AZ-816: the quantities the spec counts modulo a power of two or sends as bytes. -/

namespace Sys2Proof

/-- One byte of a feed line, a notice, a storage record or the option record (R197). -/
abbrev Byte := BitVec 8

/-- A value of the 48-bit microsecond counter of the Time Base (R183). -/
abbrev Time := BitVec 48

/-- A feed frame count, compared modulo 2^32 (R70). -/
abbrev FrameCount := BitVec 32

/-- A value of the house frame counter, which wraps modulo 2^32 (R184). -/
abbrev HouseCount := BitVec 32

/-- A clip number, 1 to FFFFFFFFh in a taken request (R1). -/
abbrev Clip := BitVec 32

/-- A source ID (chapter 2, section 2.1). -/
abbrev SourceId := BitVec 32

/-- The number of a binding record, 0 to 15 (R1). -/
abbrev BindingNo := Fin 16

/-- The number of a feed port, F0 to F7. -/
abbrev PortNo := Fin 8

/-- A store tag, 0 to 7 (R138). -/
abbrev Tag := Fin 8

/-- A station of the peer lane, 0 to 31 (chapter 9); a node's own number is 1 to 31. -/
abbrev Station := Fin 32

end Sys2Proof
end

