-- ==== Sys2Proof/Syntax.lean ====
section
/-! DEFINITION. The commands: one constructor for each row of spec/opcode_table.json, in the table's order. -/

namespace Sys2Proof

/-- A RECORD request, field for field as its 63-byte body carries it (R199, R200). -/
structure Request where
  clip        : Clip
  source      : SourceId
  stream      : BitVec 8
  anchor      : FrameCount
  hn          : BitVec 16
  hd          : BitVec 16
  fn          : BitVec 16
  fd          : BitVec 16
  clipLength  : BitVec 24
  slotCells   : BitVec 16
  browseCells : BitVec 8
  divisor     : BitVec 8
  audio       : BitVec 8
  rate        : BitVec 32
  cbs         : BitVec 32
  ebs         : BitVec 32
  patience    : BitVec 32
  essenceBase : BitVec 48
  indexBase   : BitVec 48
  browseBase  : BitVec 48
deriving DecidableEq, Repr

/-- A piece as a receiver has framed it (R25): the header fields, the payload and the CRC as read. The header's
payload length is the number of payload bytes taken. -/
structure Piece where
  source  : SourceId
  stream  : BitVec 8
  quality : BitVec 8
  count   : FrameCount
  index   : BitVec 16
  pieces  : BitVec 16
  base    : BitVec 16
  audio   : BitVec 16
  payload : List Byte
  crc     : BitVec 32
deriving DecidableEq, Repr

/-- One run of an EXTENT notice as its seven bytes carry it (R199). -/
structure WireRun where
  start : BitVec 24
  count : BitVec 24
  kind  : BitVec 8
deriving DecidableEq, Repr

/-- The status a completion carries (R139). -/
inductive Status where
  | ok
  | retry
  | fault
deriving DecidableEq, Repr

/-- The commands. `t` is the value of the microsecond counter at which the event is taken (R183). `station` is the
station byte of an intact notice (R199). An `order` says which of several orders the part took where the spec states
none: at each place it picks the next of those that remain. A `tag` is the free tag the part took where the spec
leaves the choice open (R138). -/
inductive Instr where
  /-- COLD_RESET (R188). -/
  | coldReset
  /-- OPTION_LOAD (R189): the 71 bytes read from the option flash. -/
  | optionLoad (t : Time) (bytes : Vector Byte 71)
  /-- SIGNAL_PRESENT (R28). -/
  | signalPresent (t : Time) (port : PortNo)
  /-- SIGNAL_LOST (R28). -/
  | signalLost (t : Time) (port : PortNo) (order : List Nat)
  /-- PAYLOAD_LENGTH_BAD (R25): `len` is the payload length read from the header. -/
  | payloadLengthBad (t : Time) (port : PortNo) (len : BitVec 16) (order : List Nat)
  /-- PIECE_FRAMED (R26). -/
  | pieceFramed (t : Time) (port : PortNo) (piece : Piece) (order : List Nat)
  /-- SLOT_DEADLINE (R55): the deadline of the slot of frame count `count`. -/
  | slotDeadline (t : Time) (b : BindingNo) (count : FrameCount)
  /-- METER_CREDIT (R84). -/
  | meterCredit (t : Time)
  /-- BINDING_SILENT (R91). -/
  | bindingSilent (t : Time) (b : BindingNo)
  /-- SOURCE_AGE_OUT (R39): the entry of this source and stream. -/
  | sourceAgeOut (t : Time) (source : SourceId) (stream : BitVec 8)
  /-- TAKER_EXPIRY (R100): the entry of this station in the binding's taker list. -/
  | takerExpiry (t : Time) (b : BindingNo) (station : Station)
  /-- OCCUPANCY_UPDATE (R158). -/
  | occupancyUpdate (t : Time)
  /-- SETTLE_DEADLINE (R102). -/
  | settleDeadline (t : Time) (b : BindingNo)
  /-- TAKE_TIME (R98). -/
  | takeTime (t : Time) (b : BindingNo)
  /-- HOLD_DEADLINE (R115): the due held frame of lowest stored position. -/
  | holdDeadline (t : Time) (b : BindingNo)
  /-- EXTENT_TIME (R123). -/
  | extentTime (t : Time) (b : BindingNo)
  /-- HREF_PULSE (R185). -/
  | hrefPulse (t : Time)
  /-- FREE_RUN_ENTRY (R186). -/
  | freeRunEntry (t : Time)
  /-- INTERNAL_HOUSE_FRAME (R186). -/
  | internalHouseFrame (t : Time)
  /-- RECORD (R4). `order` is the order of the pressure tests that a take calls for (R116). -/
  | record (t : Time) (station : Station) (req : Request) (order : List Nat)
  /-- STOP (R13). -/
  | stop (t : Time) (station : Station) (clip : Clip) (position : BitVec 24)
  /-- IMMEDIATE_STOP (R15): a STOP with P = FFFFFFh. -/
  | immediateStop (t : Time) (station : Station) (clip : Clip)
  /-- ABORT (R18). -/
  | abort (t : Time) (station : Station) (clip : Clip)
  /-- DRAIN_END (R19). -/
  | drainEnd (t : Time) (b : BindingNo)
  /-- BINDING_QUIET (R17). -/
  | bindingQuiet (t : Time) (b : BindingNo)
  /-- DONE_QUEUED (R20). -/
  | doneQueued (t : Time) (b : BindingNo)
  /-- QUERY_BINDING (R21): a QUERY with a non-zero clip number. -/
  | queryBinding (t : Time) (station : Station) (target : BitVec 8) (clip : Clip)
  /-- QUERY_NODE (R196): a QUERY with clip number 0. -/
  | queryNode (t : Time) (station : Station) (target : BitVec 8)
  /-- RESTART (R193). -/
  | restart (t : Time) (station : Station) (target : BitVec 8)
  /-- RESTART_END (R194). -/
  | restartEnd (t : Time)
  /-- TAKE (R99). -/
  | take (t : Time) (station : Station) (clip : Clip) (grade : BitVec 8) (role : BitVec 8) (primary : BitVec 8)
  /-- EXTENT (R125). -/
  | extent (t : Time) (station : Station) (clip : Clip) (role : BitVec 8) (through : BitVec 24) (runs : List WireRun)
  /-- DONE (R101). -/
  | done (t : Time) (station : Station) (clip : Clip) (reason : BitVec 8) (endPosition : BitVec 24)
  /-- NOTICE_NOT_DELIVERED (R174): the bytes heard, from the sync pattern until the lane went idle. -/
  | noticeNotDelivered (t : Time) (bytes : List Byte)
  /-- IDLE_GAP (R168). -/
  | idleGap (t : Time)
  /-- HOLDOFF_END (R168). -/
  | holdoffEnd (t : Time)
  /-- HOLDOFF_GIVEN_UP (R168). -/
  | holdoffGivenUp (t : Time)
  /-- NOTICE_SENT (R169). -/
  | noticeSent (t : Time)
  /-- COLLISION (R170). -/
  | collision (t : Time)
  /-- PRESENCE_TIME (R180). -/
  | presenceTime (t : Time)
  /-- BROWSE_DECISION (R155): the oldest frame of the binding that waits for its decision. -/
  | browseDecision (t : Time) (b : BindingNo)
  /-- GRANT (R136). -/
  | grant (t : Time) (tag : Tag)
  /-- PACING_HOLD_END (R137). -/
  | pacingHoldEnd (t : Time)
  /-- STORE_COMPLETION (R139). `order` is the order in which the bindings' grades are recomputed (R93). -/
  | storeCompletion (t : Time) (tag : Tag) (status : Status) (order : List Nat)
  /-- STORE_TIMEOUT (R142). -/
  | storeTimeout (t : Time) (tag : Tag) (order : List Nat)
  /-- TAG_RETIREMENT_END (R142). -/
  | tagRetirementEnd (t : Time) (tag : Tag)
  /-- SRDYN_HIGH (R144). -/
  | srdynHigh (t : Time) (order : List Nat)
  /-- LINK_UP (R144). -/
  | linkUp (t : Time) (order : List Nat)
  /-- PROBE_TIME (R147). -/
  | probeTime (t : Time) (tag : Tag)
deriving DecidableEq, Repr

/-- The time a command is taken at; a cold reset has none, since it holds the counter at 0 (R183). -/
def Instr.time? : Instr → Option Time
  | .coldReset => none
  | .optionLoad t _ => some t
  | .signalPresent t _ => some t
  | .signalLost t _ _ => some t
  | .payloadLengthBad t _ _ _ => some t
  | .pieceFramed t _ _ _ => some t
  | .slotDeadline t _ _ => some t
  | .meterCredit t => some t
  | .bindingSilent t _ => some t
  | .sourceAgeOut t _ _ => some t
  | .takerExpiry t _ _ => some t
  | .occupancyUpdate t => some t
  | .settleDeadline t _ => some t
  | .takeTime t _ => some t
  | .holdDeadline t _ => some t
  | .extentTime t _ => some t
  | .hrefPulse t => some t
  | .freeRunEntry t => some t
  | .internalHouseFrame t => some t
  | .record t _ _ _ => some t
  | .stop t _ _ _ => some t
  | .immediateStop t _ _ => some t
  | .abort t _ _ => some t
  | .drainEnd t _ => some t
  | .bindingQuiet t _ => some t
  | .doneQueued t _ => some t
  | .queryBinding t _ _ _ => some t
  | .queryNode t _ _ => some t
  | .restart t _ _ => some t
  | .restartEnd t => some t
  | .take t _ _ _ _ _ => some t
  | .extent t _ _ _ _ _ => some t
  | .done t _ _ _ _ => some t
  | .noticeNotDelivered t _ => some t
  | .idleGap t => some t
  | .holdoffEnd t => some t
  | .holdoffGivenUp t => some t
  | .noticeSent t => some t
  | .collision t => some t
  | .presenceTime t => some t
  | .browseDecision t _ => some t
  | .grant t _ => some t
  | .pacingHoldEnd t => some t
  | .storeCompletion t _ _ _ => some t
  | .storeTimeout t _ _ => some t
  | .tagRetirementEnd t _ => some t
  | .srdynHigh t _ => some t
  | .linkUp t _ => some t
  | .probeTime t _ => some t

end Sys2Proof
end

