-- ==== Sys2Proof/Config.lean ====
section
/-! DEFINITION. The sizes that the part fixes (00_scope.md section 7) and the values it starts from. -/

namespace Sys2Proof.Config

/-- Entries of the Source Table (R42). -/
def sourceEntries : Nat := 64

/-- Cells of the cell pool (R62). -/
def poolCells : Nat := 16384

/-- Bytes of one cell (R62). -/
def cellBytes : Nat := 1024

/-- Frame records of the frame table (R63). -/
def frameRecords : Nat := 2048

/-- Slots of a binding's open-frame window (R44). -/
def windowSlots : Nat := 8

/-- Entries of a taker list (R99). -/
def takerEntries : Nat := 8

/-- Extents of an extent map (R108). -/
def mapExtents : Nat := 64

/-- Runs of a report buffer (R122). -/
def reportRuns : Nat := 12

/-- Runs that one EXTENT carries (R123). -/
def noticeRuns : Nat := 6

/-- Notices of the notice queue (R175). -/
def queueNotices : Nat := 16

/-- Jobs of one class queue (R127). -/
def queueJobs : Nat := 256

/-- Pieces that one body transaction carries (R128, R161). -/
def piecesPerTransaction : Nat := 64

/-- Index records that one record transaction carries (R129). -/
def recordsPerTransaction : Nat := 2048

/-- Outcomes of a closure history (R89). -/
def historyOutcomes : Nat := 8

/-- Collisions after which a notice is abandoned (R170). -/
def maxCollisions : Nat := 16

/-- The value at which every counter stops (R23, R195). -/
def counterMax : Nat := 65535

/-- The stop position that means none, FFFFFFh (R1). -/
def noStop : Nat := 16777215

/-- The first store address above the 48-bit space (R8). -/
def storeSpace : Nat := 2 ^ 48

/-- The thinning LFSR before the station number is combined into it (R159). -/
def thinningSeed : BitVec 16 := 0xACE1

/-- The holdoff LFSR before the station number is combined into it (R168). -/
def holdoffSeed : BitVec 16 := 0x1D0F

end Sys2Proof.Config
end

