-- ==== Sys2Proof/Machine/State.lean ====
section
/-! DEFINITION. The state of the AZ-816, the outcomes a step may end in, and the machine right after reset. Each
structure names the rule that gives its fields. Counts, sizes and clip positions are natural numbers; what the spec
counts modulo a power of two is a bit vector. -/

namespace Sys2Proof.Machine

/-! ## Named values -/

/-- The node states (R191). -/
inductive NodeState where
  | loading
  | running
  | restarting
  | listening
deriving DecidableEq, Repr

/-- The line states of a port (R27). -/
inductive LineState where
  | dark
  | seeking
  | locked
deriving DecidableEq, Repr

/-- The states of a binding (R3). -/
inductive BindingState where
  | idle
  | armed
  | recording
  | finishing
  | draining
deriving DecidableEq, Repr

/-- The finish reasons (R1). -/
inductive FinishReason where
  | stopped
  | clipFull
  | aborted
deriving DecidableEq, Repr

/-- Whether a DONE is waiting to be queued (R1). -/
inductive DonePending where
  | no
  | yes
  | suppressed
deriving DecidableEq, Repr

/-- Why a slot keeps no content (R44). -/
inductive SkipReason where
  | drop
  | covered
  | beyond
  | oversize
  | room
deriving DecidableEq, Repr

/-- The outcome of a closure (R44). -/
inductive Closure where
  | complete
  | incomplete
  | unseen
  | skipped (reason : SkipReason)
deriving DecidableEq, Repr

/-- The state of one slot of the window (R44). A FILLING slot names its frame record. -/
inductive Slot where
  | free (deadline : Option Time)
  | filling (frame : Nat) (deadline : Time)
  | skipped (reason : SkipReason) (deadline : Time)
  | closed (outcome : Closure)
deriving DecidableEq, Repr

/-- The states of a frame record that belongs to a frame (R63). -/
inductive FrameState where
  | assembling
  | held
  | writing
  | released
deriving DecidableEq, Repr

/-- The colours of a completed frame (R85). -/
inductive Colour where
  | green
  | yellow
  | red
deriving DecidableEq, Repr

/-- The roles of a binding (R97). -/
inductive Role where
  | settling
  | primary
  | shadow
deriving DecidableEq, Repr

/-- The kinds of an extent (R106). -/
inductive ExtentKind where
  | ownWritten
  | peerWritten
  | ownGap
  | primaryGap
deriving DecidableEq, Repr

/-- The kinds of a reported run (R122). -/
inductive RunKind where
  | written
  | gap
deriving DecidableEq, Repr

/-- The states of the store link (R144). -/
inductive LinkState where
  | training
  | up
  | failed
deriving DecidableEq, Repr

/-- The classes of the Store Port (R127). -/
inductive JobClass where
  | live
  | fill
  | browse
deriving DecidableEq, Repr

/-- The kinds of a job (R127). -/
inductive JobKind where
  | essence
  | browse
deriving DecidableEq, Repr

/-- The phases of a job (R132). -/
inductive Phase where
  | body
  | records
deriving DecidableEq, Repr

/-- The house time states (R184). -/
inductive HouseState where
  | referenced
  | freeRun
deriving DecidableEq, Repr

/-- The events of a SOURCE notice (R41). -/
inductive SourceEvent where
  | new
  | ports
  | gone
deriving DecidableEq, Repr

/-- The reasons of a DECLINE (R8, R9). -/
inductive DeclineReason where
  | badParams
  | clipBusy
  | sourceBusy
  | noBinding
  | storeDown
deriving DecidableEq, Repr

/-! ## Counters -/

/-- The names of the 21 binding counters, in the order of R23. -/
inductive BindingCounter where
  | pieces
  | duplicates
  | late
  | early
  | inconsistent
  | afterEnd
  | complete
  | incomplete
  | unseen
  | drops
  | roomSkips
  | oversize
  | red
  | yellow
  | liveWrites
  | fills
  | yields
  | failedJobs
  | browseFrames
  | thinned
  | browseHoles
deriving DecidableEq, Repr

/-- The 21 binding counters (R23). -/
structure BindingCounters where
  pieces       : Nat := 0
  duplicates   : Nat := 0
  late         : Nat := 0
  early        : Nat := 0
  inconsistent : Nat := 0
  afterEnd     : Nat := 0
  complete     : Nat := 0
  incomplete   : Nat := 0
  unseen       : Nat := 0
  drops        : Nat := 0
  roomSkips    : Nat := 0
  oversize     : Nat := 0
  red          : Nat := 0
  yellow       : Nat := 0
  liveWrites   : Nat := 0
  fills        : Nat := 0
  yields       : Nat := 0
  failedJobs   : Nat := 0
  browseFrames : Nat := 0
  thinned      : Nat := 0
  browseHoles  : Nat := 0
deriving DecidableEq, Repr

/-- The node counters of R195 that belong to no port. -/
structure NodeCounters where
  learnDrop      : Nat := 0
  reportsLost    : Nat := 0
  retries        : Nat := 0
  failed         : Nat := 0
  timeouts       : Nat := 0
  stray          : Nat := 0
  linkFailures   : Nat := 0
  sent           : Nat := 0
  collisions     : Nat := 0
  abandoned      : Nat := 0
  queueDrops     : Nat := 0
  crcErrors      : Nat := 0
  framingErrors  : Nat := 0
  restarts       : Nat := 0
  referenceLoss  : Nat := 0
deriving DecidableEq, Repr

/-! ## Options -/

/-- The option values in force, as R190 clamps them. Before a valid load each holds what R190 would make of a record
of zeros; station 0 is no node's number (DESIGN CHOICE, log entry 1). -/
structure Options where
  station       : Station := 0
  enables       : BitVec 8 := 0
  ageTimeout    : Nat := 1
  storeTimeout  : Nat := 1
  weightLive    : Nat := 1
  weightFill    : Nat := 1
  weightBrowse  : Nat := 1
  strict        : Bool := false
  pace          : Nat := 0
  window        : Nat := 1
  margin        : Nat := 0
  takerTimeout  : Nat := 100
  presence      : Nat := 50
  extentPeriod  : Nat := 1
  housePeriod   : Nat := 10000
  grades        : List Nat := List.replicate 16 0
  thinning      : List Nat := List.replicate 16 0
deriving DecidableEq, Repr

/-! ## Feed ports and the Source Table -/

/-- One feed port (R27, R34). `signal` is whether the line shows signal (R28). -/
structure Port where
  line       : LineState := .dark
  good       : Nat := 0
  bad        : Nat := 0
  signal     : Bool := false
  badPieces  : Nat := 0
  lockLosses : Nat := 0
deriving DecidableEq, Repr

/-- One entry of the Source Table (chapter 2, section 2.5). Bit j of `ports` is set when Fj is in the set (R197). -/
structure SourceEntry where
  source    : SourceId
  stream    : BitVec 8
  ports     : BitVec 8
  lastCount : FrameCount
  lastHeard : Time
  quality   : BitVec 8
  bound     : Option BindingNo
deriving DecidableEq, Repr

/-! ## Frame table and cell pool -/

/-- One frame record in use (R50, R63). `index` is its place in the frame table. `cells` is the cell list: the piece
index and the payload of each held cell, in increasing order of piece index; it is the present-piece set and the
payload lengths as well. -/
structure FrameRecord where
  index     : Nat
  binding   : BindingNo
  count     : FrameCount
  spanStart : Nat
  spanEnd   : Nat
  pieces    : Nat
  base      : Nat
  audio     : Nat
  quality   : Option (BitVec 8)
  cells     : List (Nat × List Byte)
  byteTotal : Nat
  maxima    : Vector Nat 4
  peaks     : Vector Nat 4
  state     : FrameState
  users     : Nat
  colour    : Option Colour
deriving DecidableEq, Repr

/-! ## Bindings -/

/-- The terms of a taken request, after the clamps of R7. -/
structure Terms where
  source      : SourceId := 0
  stream      : BitVec 8 := 0
  anchor      : FrameCount := 0
  hn          : Nat := 0
  hd          : Nat := 0
  fn          : Nat := 0
  fd          : Nat := 0
  clipLength  : Nat := 0
  slotCells   : Nat := 0
  audio       : Nat := 0
  browseCells : Nat := 0
  divisor     : Nat := 0
  rate        : Nat := 0
  cbs         : Nat := 0
  ebs         : Nat := 0
  patience    : Option Nat := none
  essenceBase : Nat := 0
  indexBase   : Nat := 0
  browseBase  : Option Nat := none
deriving DecidableEq, Repr

/-- The assembly state of a binding (R44). `slots` lists the window from its base upward. `takenAt` is the time of the
take, from which R91 counts silence while there is no arrival. -/
structure Assembly where
  base        : Option FrameCount := none
  slots       : List Slot := List.replicate Config.windowSlots (.free none)
  opening     : Option (FrameCount × Time) := none
  period      : Nat := 1000
  lastArrival : Option Time := none
  takenAt     : Time := 0
deriving DecidableEq, Repr

/-- What Frame Accounting keeps for a binding (R83, R89 to R92). -/
structure Accounting where
  committed   : Nat := 0
  excess      : Nat := 0
  history     : List Closure := []
  lastQuality : Option (BitVec 8) := none
  silent      : Bool := false
  grade       : Nat := 0
deriving DecidableEq, Repr

/-- One entry of a taker list (R97). -/
structure Taker where
  station   : Station
  grade     : Nat
  lastHeard : Time
deriving DecidableEq, Repr

/-- One extent: the positions from `start` up to, but not including, `stop` (R106). -/
structure Extent where
  start : Nat
  stop  : Nat
  kind  : ExtentKind
deriving DecidableEq, Repr

/-- One run: the positions from `start` up to, but not including, `stop` (R122). -/
structure Run where
  start : Nat
  stop  : Nat
  kind  : RunKind
deriving DecidableEq, Repr

/-- One held frame: its record, its stored position, the end of its clipped span and its deadline (R112). -/
structure Held where
  frame    : Nat
  position : Nat
  stop     : Nat
  deadline : HouseCount
deriving DecidableEq, Repr

/-- The coordination state of a binding (R97). -/
structure Coordination where
  role           : Role := .settling
  settle         : Option Time := none
  primary        : Option Station := none
  takers         : List Taker := []
  map            : List Extent := []
  held           : List Held := []
  report         : List Run := []
  ownThrough     : Nat := 0
  primaryThrough : Option Nat := none
  nextTake       : Time := 0
  nextExtent     : HouseCount := 0
  lastThrough    : Option Nat := none
deriving DecidableEq, Repr

/-- One binding record (R1), with the state that other blocks hold for it. `ring` is the choice ring (R152) and
`undecided` lists the frame records whose browse decision has not been made, in the order of their hand-over (R153). -/
structure Binding where
  state       : BindingState := .idle
  clip        : Option Clip := none
  request     : Option Request := none
  terms       : Terms := {}
  stopPos     : Nat := Config.noStop
  effEnd      : Nat := 0
  reason      : Option FinishReason := none
  donePending : DonePending := .no
  counters    : BindingCounters := {}
  asm         : Assembly := {}
  acct        : Accounting := {}
  coord       : Coordination := {}
  ring        : Vector (Option Nat) 32 := Vector.replicate 32 none
  undecided   : List Nat := []
deriving DecidableEq, Repr

/-! ## The Store Port -/

/-- One job (R127). For an essence job the range is [`start`, `stop`); for a browse job `start` is the browse slot.
`todo` lists the ready transactions not issued, in their order of issue, `left` counts the transactions of the phase
not yet completed OK, and `retried` lists those reissued once. -/
structure Job where
  cls     : JobClass
  kind    : JobKind
  binding : BindingNo
  frame   : Nat
  start   : Nat
  stop    : Nat
  phase   : Phase
  todo    : List Nat
  left    : Nat
  retried : List Nat
deriving DecidableEq, Repr

/-- Whose transaction a tag carries (R139): one of a job still taken, one of a job that has failed, one of a job that
an abort removed (it holds the job's user until the last of them ends), or a probe. A probe in flight when the link
left FAILED for TRAINING no longer decides the link state (R147). -/
inductive TxOwner where
  | job (kind : JobKind) (binding : BindingNo) (frame : Nat) (index : Nat)
  | ended (binding : BindingNo)
  | removed (kind : JobKind) (binding : BindingNo) (frame : Nat)
  | probe (decides : Bool)
deriving DecidableEq, Repr

/-- A transaction in flight: what left the part at its issue, and its timeout (R138). `retried` says that this issue is
the reissue of R140; it outlives the job, since a RETRY then fails the transaction although it is ignored (R141). -/
structure Transaction where
  owner    : TxOwner
  retried  : Bool
  address  : Nat
  data     : List Byte
  deadline : Time
deriving DecidableEq, Repr

/-- The state of one tag (R138, R142). -/
inductive TagState where
  | free
  | busy (tx : Transaction)
  | retired (releaseAt : Time)
deriving DecidableEq, Repr

/-- The pacing hold of BROWSE: the time of the issue and its length in nanoseconds (R137). -/
structure PacingHold where
  since : Time
  ns    : Nat
deriving DecidableEq, Repr

/-- The state of the Store Port Controller (R127 to R151). -/
structure Store where
  link          : LinkState := .training
  trainingSince : Time := 0
  failures      : Nat := 0
  live          : List Job := []
  fill          : List Job := []
  browse        : List Job := []
  currentLive   : Int := 0
  currentFill   : Int := 0
  currentBrowse : Int := 0
  tags          : Vector TagState 8 := Vector.replicate 8 .free
  pacing        : Option PacingHold := none
  nextProbe     : Option Time := none
deriving DecidableEq, Repr

/-! ## Notices and the Lane Controller -/

/-- What the binding form of STATS carries only for a binding that is not IDLE (R22). -/
structure LiveStats where
  source  : SourceId
  stream  : BitVec 8
  role    : Role
  primary : Option Station
  grade   : Nat
  effEnd  : Nat
  through : Nat
deriving DecidableEq, Repr

/-- The binding form of STATS (R22). -/
structure BindingStats where
  clip     : Clip
  number   : Option BindingNo
  state    : BindingState
  reason   : Option FinishReason
  live     : Option LiveStats
  counters : BindingCounters
deriving DecidableEq, Repr

/-- Part 1 of the node form of STATS (R196). -/
structure NodeStats where
  node         : NodeState
  link         : LinkState
  house        : HouseState
  houseCounter : HouseCount
  housePeriod  : Nat
  freeCells    : Nat
  active       : Nat
  counters     : NodeCounters
deriving DecidableEq, Repr

/-- Part 2 of the node form of STATS (R196): the ports as they stand. -/
structure PortStats where
  lines      : List LineState
  badPieces  : List Nat
  lockLosses : List Nat
deriving DecidableEq, Repr

/-- A PRESENCE (R181). -/
structure PresenceInfo where
  node         : NodeState
  link         : LinkState
  house        : HouseState
  houseCounter : HouseCount
  freeCells    : Nat
  active       : Nat
  lines        : List LineState
deriving DecidableEq, Repr

/-- A notice that the node sends (R175). The station byte is the node's own and is added on the wire. -/
inductive Notice where
  | source (event : SourceEvent) (source : SourceId) (stream : BitVec 8) (ports : BitVec 8) (lastCount : FrameCount)
      (quality : BitVec 8) (bound : Bool)
  | take (clip : Clip) (grade : Nat) (role : Role) (primary : Option Station)
  | decline (clip : Clip) (reason : DeclineReason) (code : Nat)
  | extent (clip : Clip) (role : Role) (through : Nat) (runs : List Run)
  | done (clip : Clip) (reason : Option FinishReason) (effEnd : Nat)
  | bindingStats (info : BindingStats)
  | nodeStats (info : NodeStats)
  | portStats (info : PortStats)
  | presence (info : PresenceInfo)
deriving DecidableEq, Repr

/-- The states of the transmitter (R167); HOLDOFF holds the drawn number of slots. -/
inductive TransmitterState where
  | idle
  | defer
  | holdoff (slots : Nat)
  | sending
deriving DecidableEq, Repr

/-- The state of the Lane Controller (R166 to R182). `lastAttempt` marks a notice that was in SENDING when a node
restart ended: it gets no further attempt (R179). There is no next presence time before the load and in LISTENING, where no
PRESENCE is offered (R180; DESIGN CHOICE, log entry 1). -/
structure Lane where
  tx           : TransmitterState := .idle
  attempts     : Nat := 0
  queue        : List Notice := []
  lfsr         : BitVec 16 := Config.holdoffSeed
  nextPresence : Option Time := none
  lastAttempt  : Bool := false
deriving DecidableEq, Repr

/-! ## House time and the Browse Unit's own state -/

/-- The house time state (R184). -/
structure House where
  state     : HouseState := .freeRun
  period    : Nat := 10000
  counter   : HouseCount := 0
  lastFrame : Time := 0
  byPulse   : Bool := false
deriving DecidableEq, Repr

/-- What the Browse Unit keeps for the node (R152); the thinning table stands among the options. -/
structure BrowseUnit where
  occupancy : Nat := 0
  lfsr      : BitVec 16 := Config.thinningSeed
deriving DecidableEq, Repr

/-! ## The machine -/

/-- The reasons for which the machine stops with a fault. There are none: the spec describes no condition in which the
part halts, and a command whose event cannot occur in the state it meets has no effect (log entry 2). -/
inductive Fault
deriving DecidableEq, Repr

/-- The reasons for which a command has no meaning. -/
inductive Refusal where
  /-- Raised by an arm of exec for a command not modelled yet. Safe: nothing can be proved of a state it reaches. No
  arm raises it now. -/
  | notModelled (mnemonic : String)
deriving DecidableEq, Repr

/-- The whole state of one node. `pending` is the model's own queue of the commands that wait, first in, first out. -/
structure State where
  node      : NodeState := .loading
  fltn      : Bool := false
  now       : Time := 0
  loaded    : Bool := false
  opts      : Options := {}
  house     : House := {}
  ports     : Vector Port 8 := Vector.replicate 8 {}
  sources   : List SourceEntry := []
  bindings  : Vector Binding 16 := Vector.replicate 16 {}
  freeCells : Nat := Config.poolCells
  frames    : List FrameRecord := []
  store     : Store := {}
  browse    : BrowseUnit := {}
  lane      : Lane := {}
  counters  : NodeCounters := {}
  pending   : List Instr := []
deriving DecidableEq, Repr

/-- The machine right after a cold reset (R188): every block at its cold reset values, the node in LOADING. -/
def State.reset : State := {}

end Sys2Proof.Machine
end

