-- ==== Sys2Proof/Machine/Extents.lean ====
section
/-! DEFINITION. Extent maps and report buffers as lists: insertion by precedence (R107), trimming (R108), the covering
tests (R48, R109), the advance of the own through (R121) and the merging of runs (R122, R177). -/

namespace Sys2Proof.Machine

/-- The precedence of an extent kind, higher first (R106). -/
def ExtentKind.rank : ExtentKind → Nat
  | .ownWritten => 3
  | .peerWritten => 2
  | .ownGap => 1
  | .primaryGap => 0

/-- OWN-WRITTEN and PEER-WRITTEN, the kinds that cover a position (R48). -/
def ExtentKind.covers : ExtentKind → Bool
  | .ownWritten => true
  | .peerWritten => true
  | .ownGap => false
  | .primaryGap => false

/-- The kinds that decide a position (R121). -/
def ExtentKind.decides : ExtentKind → Bool
  | .ownWritten => true
  | .peerWritten => true
  | .ownGap => true
  | .primaryGap => false

/-- The extent from `a` up to `b`, where it is not empty. -/
def extentOf (a b : Nat) (k : ExtentKind) : List Extent :=
  if a < b then [⟨a, b, k⟩] else []

/-- Give kind `k` to [a, b) in a map in increasing order of start, before any merging: a position of lower precedence
or unknown takes `k`, any other keeps its kind, and extents are split at the ends of the range (R107). -/
def paint (k : ExtentKind) : Nat → Nat → List Extent → List Extent
  | a, b, [] => extentOf a b k
  | a, b, x :: xs =>
    if b ≤ a then x :: xs
    else if x.stop ≤ a then x :: paint k a b xs
    else if b ≤ x.start then ⟨a, b, k⟩ :: x :: xs
    else
      extentOf x.start a x.kind ++ extentOf a x.start k ++
        extentOf (max a x.start) (min b x.stop) (if x.kind.rank < k.rank then k else x.kind) ++
        (if b < x.stop then ⟨b, x.stop, x.kind⟩ :: xs else paint k x.stop b xs)

/-- Merge every two extents of one kind of which one ends where the other starts (R107). -/
def mergeExtents : List Extent → List Extent
  | [] => []
  | x :: xs =>
    match mergeExtents xs with
    | [] => [x]
    | y :: ys => if x.kind = y.kind ∧ x.stop = y.start then ⟨x.start, y.stop, x.kind⟩ :: ys else x :: y :: ys

/-- While the map holds more than 64 extents, the one with the lowest start is removed (R108). -/
def trimExtents (m : List Extent) : List Extent := m.drop (m.length - Config.mapExtents)

/-- One whole insertion into a map whose binding has the effective end `effEnd` (R107, R108). -/
def insertInto (effEnd : Nat) (k : ExtentKind) (a b : Nat) (m : List Extent) : List Extent :=
  if a < min b effEnd then trimExtents (mergeExtents (paint k a (min b effEnd) m)) else m

/-- The kind of a position, or none where it is unknown (R106). -/
def kindAt : List Extent → Nat → Option ExtentKind
  | [], _ => none
  | x :: xs, p => if x.start ≤ p ∧ p < x.stop then some x.kind else kindAt xs p

/-- The first position at or above `a` that lies in no extent whose kind passes the test. -/
def reachOf (test : ExtentKind → Bool) : Nat → List Extent → Nat
  | a, [] => a
  | a, x :: xs =>
    if x.stop ≤ a then reachOf test a xs
    else if x.start ≤ a ∧ test x.kind then reachOf test x.stop xs
    else a

/-- Whether every position of [a, b) lies in an extent of kind OWN-WRITTEN or PEER-WRITTEN (R48, R109, R113). -/
def coveredIn (m : List Extent) (a b : Nat) : Bool :=
  decide (b ≤ reachOf ExtentKind.covers a m)

/-- A run that enters a report buffer: it merges with the newest run or joins as the newest, a full buffer losing its
oldest run (R122). The second part is the number of runs lost. -/
def enterReport (buffer : List Run) (r : Run) : List Run × Nat :=
  match buffer.getLast? with
  | some l =>
    if l.kind = r.kind ∧ (r.start = l.stop ∨ r.stop = l.start) then
      (buffer.dropLast ++ [⟨min l.start r.start, max l.stop r.stop, r.kind⟩], 0)
    else if Config.reportRuns ≤ buffer.length then (buffer.drop 1 ++ [r], 1)
    else (buffer ++ [r], 0)
  | none => ([r], 0)

/-- The runs of a new EXTENT merged into those of a queued one, and the runs left over when the queued one is full
(R177). The first run left over leaves over those behind it, so that their order is kept (DEDUCED, log entry 17). -/
def mergeRuns : List Run → List Run → List Run × List Run
  | queued, [] => (queued, [])
  | queued, r :: rs =>
    match queued.getLast? with
    | some l =>
      if l.kind = r.kind ∧ r.start = l.stop then mergeRuns (queued.dropLast ++ [⟨l.start, r.stop, l.kind⟩]) rs
      else if queued.length < Config.noticeRuns then mergeRuns (queued ++ [r]) rs
      else (queued, r :: rs)
    | none => mergeRuns [r] rs

end Sys2Proof.Machine
end

