-- ==== Sys2Proof/Machine/Formats.lean ====
section
/-! DEFINITION. The byte layouts of chapter 11: the byte order, the two CRCs, the piece, the notices and the storage
records. -/

namespace Sys2Proof.Machine

/-! ## Byte order and the two CRCs -/

/-- A value as `n` bytes, most significant byte first (R197). -/
def bytesOf : Nat → Nat → List Byte
  | 0, _ => []
  | n + 1, v => BitVec.ofNat 8 (v / 256 ^ n) :: bytesOf n v

/-- The value of bytes that stand most significant byte first (R197). -/
def valueOf (bytes : List Byte) : Nat :=
  bytes.foldl (fun acc x => acc * 256 + x.toNat) 0

/-- The bytes from an offset on, as many as given. -/
def slice (bytes : List Byte) (offset len : Nat) : List Byte :=
  (bytes.drop offset).take len

/-- The value of a field at an offset. -/
def field (bytes : List Byte) (offset len : Nat) : Nat :=
  valueOf (slice bytes offset len)

/-- One bit of the CRC-32 register, least significant bit first: EDB88320h is 04C11DB7h with its bits reversed (R198). -/
def crc32Bit (r : BitVec 32) : BitVec 32 :=
  if r.getLsbD 0 then (r >>> 1) ^^^ 0xEDB88320 else r >>> 1

/-- One byte of the CRC-32 (R198). -/
def crc32Byte (r : BitVec 32) (x : Byte) : BitVec 32 :=
  crc32Bit (crc32Bit (crc32Bit (crc32Bit (crc32Bit (crc32Bit (crc32Bit (crc32Bit (r ^^^ x.setWidth 32))))))))

/-- The CRC-32 of a piece (R198). -/
def crc32 (bytes : List Byte) : BitVec 32 :=
  ~~~ (bytes.foldl crc32Byte 0xFFFFFFFF)

/-- One bit of the CRC-16 register, most significant bit first (R199). -/
def crc16Bit (r : BitVec 16) : BitVec 16 :=
  if r.getLsbD 15 then (r <<< 1) ^^^ 0x1021 else r <<< 1

/-- One byte of the CRC-16 (R199). -/
def crc16Byte (r : BitVec 16) (x : Byte) : BitVec 16 :=
  crc16Bit (crc16Bit (crc16Bit (crc16Bit (crc16Bit (crc16Bit (crc16Bit (crc16Bit (r ^^^ (x.setWidth 16 <<< 8)))))))))

/-- The CRC-16 of a notice and of the option record (R199, R202). -/
def crc16 (bytes : List Byte) : BitVec 16 :=
  bytes.foldl crc16Byte 0xFFFF

/-- One step of the Galois registers with feedback B400h (R159, R168). -/
def lfsrStep (r : BitVec 16) : BitVec 16 :=
  if r.getLsbD 0 then (r >>> 1) ^^^ 0xB400 else r >>> 1

/-- The seed of a register: the constant combined with the station number in both bytes, or the constant where that
gives 0 (R159, R168). -/
def lfsrSeed (constant : BitVec 16) (station : Station) : BitVec 16 :=
  let v := constant ^^^ BitVec.ofNat 16 (station.val * 0x0101)
  if v = 0 then constant else v

/-! ## The codes of R197 -/

/-- Node state codes; LOADING and LISTENING never reach the lane. -/
def NodeState.code : NodeState → Nat
  | .running => 1
  | .restarting => 2
  | .loading => 0
  | .listening => 0

/-- Store link state codes (R197). -/
def LinkState.code : LinkState → Nat
  | .training => 0
  | .up => 1
  | .failed => 2

/-- House time state codes (R197). -/
def HouseState.code : HouseState → Nat
  | .referenced => 1
  | .freeRun => 2

/-- Line state codes (R197). -/
def LineState.code : LineState → Nat
  | .dark => 0
  | .seeking => 1
  | .locked => 2

/-- Binding state codes (R197). -/
def BindingState.code : BindingState → Nat
  | .idle => 0
  | .armed => 1
  | .recording => 2
  | .finishing => 3
  | .draining => 4

/-- Finish reason codes, 0 for absent (R197). -/
def reasonCode : Option FinishReason → Nat
  | none => 0
  | some .stopped => 1
  | some .clipFull => 2
  | some .aborted => 3

/-- Role codes (R197). -/
def Role.code : Role → Nat
  | .settling => 0
  | .primary => 1
  | .shadow => 2

/-- The code of a primary-in-view, 0 for none (R197). -/
def primaryCode : Option Station → Nat
  | none => 0
  | some s => s.val

/-- SOURCE event codes (R197). -/
def SourceEvent.code : SourceEvent → Nat
  | .new => 1
  | .ports => 2
  | .gone => 3

/-- DECLINE reason codes (R197). -/
def DeclineReason.code : DeclineReason → Nat
  | .badParams => 1
  | .clipBusy => 2
  | .sourceBusy => 3
  | .noBinding => 4
  | .storeDown => 5

/-- Run kind codes (R197). -/
def RunKind.code : RunKind → Nat
  | .written => 1
  | .gap => 2

/-! ## The piece (section 11.2) -/

/-- The sync pattern of a feed line. -/
def pieceSync : List Byte := [0x47, 0xA5, 0x1C, 0xE3]

/-- The 20 header bytes of a piece. -/
def pieceHeader (p : Piece) : List Byte :=
  bytesOf 4 p.source.toNat ++ bytesOf 1 p.stream.toNat ++ bytesOf 1 p.quality.toNat ++ bytesOf 4 p.count.toNat ++
    bytesOf 2 p.index.toNat ++ bytesOf 2 p.pieces.toNat ++ bytesOf 2 p.base.toNat ++ bytesOf 2 p.audio.toNat ++
    bytesOf 2 p.payload.length

/-- The CRC-32 that the piece's header and payload call for (R198). -/
def expectedCrc (p : Piece) : BitVec 32 :=
  crc32 (pieceHeader p ++ p.payload)

/-- A piece as it stands on the line, sync pattern first. -/
def pieceBytes (p : Piece) : List Byte :=
  pieceSync ++ pieceHeader p ++ p.payload ++ bytesOf 4 p.crc.toNat

/-- The piece that a receiver frames from a sync pattern on, where its payload length is 1 to 1024 and all its bytes
have arrived (R25). -/
def framePiece (bytes : List Byte) : Option Piece :=
  let len := field bytes 22 2
  if bytes.take 4 = pieceSync ∧ 1 ≤ len ∧ len ≤ Config.cellBytes ∧ bytes.length = 28 + len then
    some
      { source := BitVec.ofNat 32 (field bytes 4 4)
        stream := BitVec.ofNat 8 (field bytes 8 1)
        quality := BitVec.ofNat 8 (field bytes 9 1)
        count := BitVec.ofNat 32 (field bytes 10 4)
        index := BitVec.ofNat 16 (field bytes 14 2)
        pieces := BitVec.ofNat 16 (field bytes 16 2)
        base := BitVec.ofNat 16 (field bytes 18 2)
        audio := BitVec.ofNat 16 (field bytes 20 2)
        payload := slice bytes 24 len
        crc := BitVec.ofNat 32 (field bytes (24 + len) 4) }
  else none

/-! ## The notice wire frame (section 11.3) -/

/-- The sync pattern of the peer lane. -/
def noticeSync : List Byte := [0x9B, 0x26]

/-- A notice's wire frame (R199). -/
def wireFrame (station : Station) (kind : Byte) (body : List Byte) : List Byte :=
  let covered := bytesOf 1 station.val ++ [kind] ++ bytesOf 1 body.length ++ body
  noticeSync ++ covered ++ bytesOf 2 (crc16 covered).toNat

/-- The body lengths that a kind allows (R199); none for a byte that is no kind. -/
def allowedLengths (kind : Nat) : List Nat :=
  match kind with
  | 0x11 => [63]
  | 0x12 => [7]
  | 0x13 => [4]
  | 0x14 => [5]
  | 0x15 => [1]
  | 0x21 => [13]
  | 0x22 => [7]
  | 0x23 => [6]
  | 0x24 => [8, 15, 22, 29, 36, 43, 50]
  | 0x25 => [8]
  | 0x26 => [64, 44, 41]
  | 0x27 => [18]
  | _ => []

/-- What the receiver makes of bytes heard from a sync pattern until the lane went idle (R171). -/
inductive Heard where
  | noFrame
  | fragment
  | crcError
  | framingError
  | intact (station : Station) (kind : Byte) (body : List Byte)
deriving DecidableEq, Repr

/-- The checks of R171, in its order. The bytes begin where the receiver took up its hunt, and those behind the end of a
frame are ignored: the receiver does not hunt on in them (DESIGN CHOICE, log entry 43). -/
def hear (bytes : List Byte) : Heard :=
  let len := field bytes 4 1
  let station := field bytes 2 1
  let kind := field bytes 3 1
  if bytes.take 2 ≠ noticeSync then .noFrame
  else if bytes.length < 7 ∨ bytes.length < 7 + len then .fragment
  else if (crc16 (slice bytes 2 (3 + len))).toNat ≠ field bytes (5 + len) 2 then .crcError
  else if h : station < 32 then
    if len > 64 ∨ len ∉ allowedLengths kind then .framingError
    else .intact ⟨station, h⟩ (BitVec.ofNat 8 kind) (slice bytes 5 len)
  else .framingError

/-! ## The bodies that a node sends (section 11.4) -/

/-- A counter, two bytes (R197). -/
def counterBytes (n : Nat) : List Byte := bytesOf 2 n

/-- The 21 binding counters, in the order of R23. -/
def BindingCounters.list (c : BindingCounters) : List Nat :=
  [c.pieces, c.duplicates, c.late, c.early, c.inconsistent, c.afterEnd, c.complete, c.incomplete, c.unseen, c.drops,
    c.roomSkips, c.oversize, c.red, c.yellow, c.liveWrites, c.fills, c.yields, c.failedJobs, c.browseFrames, c.thinned,
    c.browseHoles]

/-- The node counters of R195 that belong to no port, in the order of part 1 of the node form of STATS. -/
def NodeCounters.list (c : NodeCounters) : List Nat :=
  [c.restarts, c.referenceLoss, c.learnDrop, c.reportsLost, c.retries, c.failed, c.timeouts, c.stray, c.linkFailures,
    c.sent, c.collisions, c.abandoned, c.queueDrops, c.crcErrors, c.framingErrors]

/-- One run as an EXTENT carries it. -/
def Run.bytes (r : Run) : List Byte :=
  bytesOf 3 r.start ++ bytesOf 3 (r.stop - r.start) ++ bytesOf 1 r.kind.code

/-- The 14 bytes of the binding form of STATS that an IDLE record fills with FFh. -/
def liveStatsBytes (reason : Option FinishReason) : Option LiveStats → List Byte
  | none => bytesOf 1 (reasonCode reason) ++ List.replicate 14 0xFF
  | some l =>
    bytesOf 1 (reasonCode reason) ++ bytesOf 4 l.source.toNat ++ bytesOf 1 l.stream.toNat ++ bytesOf 1 l.role.code ++
      bytesOf 1 (primaryCode l.primary) ++ bytesOf 1 l.grade ++ bytesOf 3 l.effEnd ++ bytesOf 3 l.through

/-- The kind byte of a notice that a node sends (R199). -/
def Notice.kind : Notice → Byte
  | .source .. => 0x21
  | .take .. => 0x22
  | .decline .. => 0x23
  | .extent .. => 0x24
  | .done .. => 0x25
  | .bindingStats .. => 0x26
  | .nodeStats .. => 0x26
  | .portStats .. => 0x26
  | .presence .. => 0x27

/-- The body of a notice that a node sends (section 11.4). -/
def Notice.body : Notice → List Byte
  | .source event src stream ports lastCount quality bound =>
    bytesOf 4 src.toNat ++ bytesOf 1 stream.toNat ++ bytesOf 1 event.code ++ [ports] ++ bytesOf 4 lastCount.toNat ++
      [quality] ++ bytesOf 1 (if bound then 1 else 0)
  | .take clip grade role primary =>
    bytesOf 4 clip.toNat ++ bytesOf 1 grade ++ bytesOf 1 role.code ++ bytesOf 1 (primaryCode primary)
  | .decline clip reason code => bytesOf 4 clip.toNat ++ bytesOf 1 reason.code ++ bytesOf 1 code
  | .extent clip role through runs =>
    bytesOf 4 clip.toNat ++ bytesOf 1 role.code ++ bytesOf 3 through ++ runs.flatMap Run.bytes
  | .done clip reason effEnd => bytesOf 4 clip.toNat ++ bytesOf 1 (reasonCode reason) ++ bytesOf 3 effEnd
  | .bindingStats i =>
    bytesOf 1 1 ++ bytesOf 4 i.clip.toNat ++ bytesOf 1 (match i.number with | none => 255 | some b => b.val) ++
      bytesOf 1 i.state.code ++ liveStatsBytes i.reason i.live ++ i.counters.list.flatMap counterBytes
  | .nodeStats i =>
    bytesOf 1 2 ++ bytesOf 1 i.node.code ++ bytesOf 1 i.link.code ++ bytesOf 1 i.house.code ++
      bytesOf 4 i.houseCounter.toNat ++ bytesOf 3 i.housePeriod ++ bytesOf 2 i.freeCells ++ bytesOf 1 i.active ++
      i.counters.list.flatMap counterBytes
  | .portStats i =>
    bytesOf 1 3 ++ i.lines.flatMap (fun l => bytesOf 1 l.code) ++ i.badPieces.flatMap counterBytes ++
      i.lockLosses.flatMap counterBytes
  | .presence i =>
    bytesOf 1 i.node.code ++ bytesOf 1 i.link.code ++ bytesOf 1 i.house.code ++ bytesOf 4 i.houseCounter.toNat ++
      bytesOf 2 i.freeCells ++ bytesOf 1 i.active ++ i.lines.flatMap (fun l => bytesOf 1 l.code)

/-! ## The bodies that a node receives (section 11.4, R200) -/

/-- The 63 bytes of a RECORD. -/
def requestBody (r : Request) : List Byte :=
  bytesOf 4 r.clip.toNat ++ bytesOf 4 r.source.toNat ++ bytesOf 1 r.stream.toNat ++ bytesOf 4 r.anchor.toNat ++
    bytesOf 2 r.hn.toNat ++ bytesOf 2 r.hd.toNat ++ bytesOf 2 r.fn.toNat ++ bytesOf 2 r.fd.toNat ++
    bytesOf 3 r.clipLength.toNat ++ bytesOf 2 r.slotCells.toNat ++ bytesOf 1 r.browseCells.toNat ++
    bytesOf 1 r.divisor.toNat ++ bytesOf 1 r.audio.toNat ++ bytesOf 4 r.rate.toNat ++ bytesOf 4 r.cbs.toNat ++
    bytesOf 4 r.ebs.toNat ++ bytesOf 4 r.patience.toNat ++ bytesOf 6 r.essenceBase.toNat ++
    bytesOf 6 r.indexBase.toNat ++ bytesOf 6 r.browseBase.toNat

/-- The request that 63 bytes carry. -/
def readRequest (body : List Byte) : Request :=
  { clip := BitVec.ofNat 32 (field body 0 4)
    source := BitVec.ofNat 32 (field body 4 4)
    stream := BitVec.ofNat 8 (field body 8 1)
    anchor := BitVec.ofNat 32 (field body 9 4)
    hn := BitVec.ofNat 16 (field body 13 2)
    hd := BitVec.ofNat 16 (field body 15 2)
    fn := BitVec.ofNat 16 (field body 17 2)
    fd := BitVec.ofNat 16 (field body 19 2)
    clipLength := BitVec.ofNat 24 (field body 21 3)
    slotCells := BitVec.ofNat 16 (field body 24 2)
    browseCells := BitVec.ofNat 8 (field body 26 1)
    divisor := BitVec.ofNat 8 (field body 27 1)
    audio := BitVec.ofNat 8 (field body 28 1)
    rate := BitVec.ofNat 32 (field body 29 4)
    cbs := BitVec.ofNat 32 (field body 33 4)
    ebs := BitVec.ofNat 32 (field body 37 4)
    patience := BitVec.ofNat 32 (field body 41 4)
    essenceBase := BitVec.ofNat 48 (field body 45 6)
    indexBase := BitVec.ofNat 48 (field body 51 6)
    browseBase := BitVec.ofNat 48 (field body 57 6) }

/-- The seven bytes of a received run. -/
def wireRunBytes (r : WireRun) : List Byte :=
  bytesOf 3 r.start.toNat ++ bytesOf 3 r.count.toNat ++ bytesOf 1 r.kind.toNat

/-- The runs of a received EXTENT: as many as its length says. -/
def readRuns (body : List Byte) : Nat → Nat → List WireRun
  | 0, _ => []
  | n + 1, offset =>
    { start := BitVec.ofNat 24 (field body offset 3)
      count := BitVec.ofNat 24 (field body (offset + 3) 3)
      kind := BitVec.ofNat 8 (field body (offset + 6) 1) } :: readRuns body n (offset + 7)

/-- The command that an intact notice of another station is, where its kind is delivered (R174) and its length is one
that the kind allows. `order` goes to a RECORD. -/
def commandOf (t : Time) (station : Station) (order : List Nat) (kind : Byte) (body : List Byte) : Option Instr :=
  if body.length ∉ allowedLengths kind.toNat then none
  else
    match kind.toNat with
    | 0x11 => some (.record t station (readRequest body) order)
    | 0x12 =>
      if field body 4 3 = Config.noStop then some (.immediateStop t station (BitVec.ofNat 32 (field body 0 4)))
      else some (.stop t station (BitVec.ofNat 32 (field body 0 4)) (BitVec.ofNat 24 (field body 4 3)))
    | 0x13 => some (.abort t station (BitVec.ofNat 32 (field body 0 4)))
    | 0x14 =>
      if field body 1 4 = 0 then some (.queryNode t station (BitVec.ofNat 8 (field body 0 1)))
      else some (.queryBinding t station (BitVec.ofNat 8 (field body 0 1)) (BitVec.ofNat 32 (field body 1 4)))
    | 0x15 => some (.restart t station (BitVec.ofNat 8 (field body 0 1)))
    | 0x22 =>
      some (.take t station (BitVec.ofNat 32 (field body 0 4)) (BitVec.ofNat 8 (field body 4 1))
        (BitVec.ofNat 8 (field body 5 1)) (BitVec.ofNat 8 (field body 6 1)))
    | 0x24 =>
      some (.extent t station (BitVec.ofNat 32 (field body 0 4)) (BitVec.ofNat 8 (field body 4 1))
        (BitVec.ofNat 24 (field body 5 3)) (readRuns body ((body.length - 8) / 7) 8))
    | 0x25 =>
      some (.done t station (BitVec.ofNat 32 (field body 0 4)) (BitVec.ofNat 8 (field body 4 1))
        (BitVec.ofNat 24 (field body 5 3)))
    | _ => none

/-- The station, kind and body of the notice that a command was heard as; none for a command that is no notice. -/
def noticeOf : Instr → Option (Station × Byte × List Byte)
  | .record _ station req _ => some (station, 0x11, requestBody req)
  | .stop _ station clip p => some (station, 0x12, bytesOf 4 clip.toNat ++ bytesOf 3 p.toNat)
  | .immediateStop _ station clip => some (station, 0x12, bytesOf 4 clip.toNat ++ bytesOf 3 Config.noStop)
  | .abort _ station clip => some (station, 0x13, bytesOf 4 clip.toNat)
  | .queryBinding _ station target clip => some (station, 0x14, bytesOf 1 target.toNat ++ bytesOf 4 clip.toNat)
  | .queryNode _ station target => some (station, 0x14, bytesOf 1 target.toNat ++ bytesOf 4 0)
  | .restart _ station target => some (station, 0x15, bytesOf 1 target.toNat)
  | .take _ station clip grade role primary =>
    some (station, 0x22, bytesOf 4 clip.toNat ++ bytesOf 1 grade.toNat ++ bytesOf 1 role.toNat ++
      bytesOf 1 primary.toNat)
  | .extent _ station clip role through runs =>
    some (station, 0x24, bytesOf 4 clip.toNat ++ bytesOf 1 role.toNat ++ bytesOf 3 through.toNat ++
      runs.flatMap wireRunBytes)
  | .done _ station clip reason e =>
    some (station, 0x25, bytesOf 4 clip.toNat ++ bytesOf 1 reason.toNat ++ bytesOf 3 e.toNat)
  | _ => none

/-! ## Storage records (section 11.5) -/

/-- A piece's payload followed by zero bytes up to 1024 (R128, R201). -/
def paddedCell (payload : List Byte) : List Byte :=
  payload ++ List.replicate (Config.cellBytes - payload.length) 0

/-- The four stored peaks, two bytes each. -/
def peakBytes (peaks : Vector Nat 4) : List Byte :=
  bytesOf 2 peaks[0] ++ bytesOf 2 peaks[1] ++ bytesOf 2 peaks[2] ++ bytesOf 2 peaks[3]

/-- The quality code that a record carries: that of piece 0, which a complete frame always holds (R90). -/
def FrameRecord.qualityCode (f : FrameRecord) : Nat :=
  match f.quality with
  | none => 0
  | some q => q.toNat

/-- The FRAME record of a frame (R130). -/
def frameRecordBytes (terms : Terms) (f : FrameRecord) : List Byte :=
  [0x5A] ++ bytesOf 1 terms.audio ++ bytesOf 1 f.qualityCode ++ bytesOf 2 f.pieces ++ bytesOf 2 f.base ++
    bytesOf 2 f.audio ++ bytesOf 3 f.spanStart ++ bytesOf 4 f.count.toNat ++ bytesOf 4 (f.count - terms.anchor).toNat ++
    bytesOf 3 f.byteTotal ++ [0x00] ++ peakBytes f.peaks

/-- The start of the essence slot of a position (R128). -/
def essenceSlot (terms : Terms) (position : Nat) : Nat :=
  terms.essenceBase + position * terms.slotCells * Config.cellBytes

/-- The REPEAT record of position `p` of a frame stored at `stored` (R130). -/
def repeatRecordBytes (terms : Terms) (stored p : Nat) : List Byte :=
  [0xA5, 0x00, 0x00, 0x00] ++ bytesOf 3 p ++ [0x00] ++ bytesOf 3 stored ++ [0x00] ++
    bytesOf 6 (essenceSlot terms stored) ++ List.replicate 14 0

/-- The payload bytes of the base pieces of a frame (R162). -/
def FrameRecord.baseTotal (f : FrameRecord) : Nat :=
  ((f.cells.filter (fun c => c.1 < f.base)).map (fun c => c.2.length)).sum

/-- The browse record of a frame chosen for a browse slot (R162). -/
def browseRecordBytes (terms : Terms) (f : FrameRecord) (slot : Nat) : List Byte :=
  [0x3C] ++ bytesOf 1 terms.audio ++ bytesOf 1 f.qualityCode ++ bytesOf 1 f.base ++ bytesOf 3 slot ++
    bytesOf 3 f.spanStart ++ bytesOf 4 f.count.toNat ++ bytesOf 3 f.baseTotal ++ List.replicate 7 0 ++ peakBytes f.peaks

end Sys2Proof.Machine
end

