-- ==== Sys2Proof/Machine/Placement.lean ====
section
/-! DEFINITION. Clip placement (chapter 4): deltas, the map, start positions, spans and the runs that ranges of frame
counts own. The Placement Unit keeps no state (R69). -/

namespace Sys2Proof.Machine

/-- The delta of a frame count (R70). -/
def delta (anchor count : FrameCount) : Nat := (count - anchor).toNat

/-- The first delta that is early (R70). -/
def earlyDelta : Nat := 2 ^ 31

/-- The map of a delta (R71). -/
def mapOf (terms : Terms) (d : Nat) : Nat :=
  d * terms.hn * terms.fd / (terms.hd * terms.fn)

/-- The start position of a delta (R72). -/
def startOf (terms : Terms) (d : Nat) : Nat :=
  if d = 0 ∨ mapOf terms (d - 1) < mapOf terms d then mapOf terms d else mapOf terms d + 1

/-- The classes of a frame at its first piece (R78). -/
inductive FrameClass where
  | drop
  | beyond
  | store
deriving DecidableEq, Repr

/-- The class of a frame (R78). -/
def classOf (terms : Terms) (effEnd d : Nat) : FrameClass :=
  if startOf terms d = startOf terms (d + 1) then .drop
  else if effEnd ≤ startOf terms d then .beyond
  else .store

/-- The positions owned by the frame counts with deltas in [a, b), clipped at E (R80). Deltas at and above 2^31 own
none (R70). -/
def ownedRun (terms : Terms) (effEnd a b : Nat) : Nat × Nat :=
  if a ≤ earlyDelta then (min (startOf terms a) effEnd, min (startOf terms (min b earlyDelta)) effEnd) else (0, 0)

end Sys2Proof.Machine
end

