-- ==== Sys2Proof/Machine/Ops.lean ====
section
/-! DEFINITION. The operations that the commands share: time tests, counters, access to bindings, ports and tags, the
frame table and the cell pool, the notice queue, extent maps and reports, the hand-over and failure of jobs, and the
roles and grades of bindings. -/

namespace Sys2Proof.Machine

/-! ## Choices and numbers -/

/-- A list in the order that `order` picks: each number picks one of those that remain, and what is never picked
follows. It stands where the spec states no order (log entry 3). -/
def arrange {α : Type} : List Nat → List α → List α
  | [], l => l
  | i :: is, l =>
    match l[i]? with
    | some x => x :: arrange is (l.eraseIdx i)
    | none => arrange is l

/-- A counter raised by `k`; it stops at 65535 (R23, R195). -/
def bump (n k : Nat) : Nat := min Config.counterMax (n + k)

/-- A value brought into a range. -/
def clampTo (lo hi x : Nat) : Nat := max lo (min hi x)

/-- `m` moved toward `x` by one part in `k` of the difference, the division truncating toward zero (R60, R158, R185). -/
def approach (m x k : Nat) : Nat :=
  if m ≤ x then m + (x - m) / k else m - (m - x) / k

/-! ## Time (R183) -/

/-- The state with its microsecond counter at `t`: the time at which a command is taken. -/
def State.atTime (s : State) (t : Time) : State := { s with now := t }

/-- The microseconds from `since` to now, modulo 2^48. -/
def State.elapsed (s : State) (since : Time) : Nat := (s.now - since).toNat

/-- A microsecond time has been reached: it lies less than half the counter's range in the past (DEDUCED, log entry 4). -/
def reached (now deadline : Time) : Bool := decide ((now - deadline).toNat < 2 ^ 47)

/-- The counter gives a millisecond tick at each multiple of 1000. -/
def msTick (t : Time) : Bool := decide (t.toNat % 1000 = 0)

/-- The millisecond time of a microsecond time, kept as the microsecond value at which that millisecond began. -/
def msTime (t : Time) : Time := BitVec.ofNat 48 (t.toNat / 1000 * 1000)

/-- A number of milliseconds as microseconds. -/
def ms (k : Nat) : Time := BitVec.ofNat 48 (k * 1000)

/-- A house frame count has reached a time (R184). -/
def houseReached (count time : HouseCount) : Bool := decide ((count - time).toNat < 2 ^ 31)

/-! ## Bindings, ports, tags -/

/-- The sixteen binding numbers, in increasing order. -/
def allBindings : List BindingNo := [0, 1, 2, 3, 4, 5, 6, 7, 8, 9, 10, 11, 12, 13, 14, 15]

/-- The eight ports, F0 first. -/
def allPorts : List PortNo := [0, 1, 2, 3, 4, 5, 6, 7]

/-- The eight tags. -/
def allTags : List Tag := [0, 1, 2, 3, 4, 5, 6, 7]

/-- The record of a binding. -/
def State.binding (s : State) (b : BindingNo) : Binding := s.bindings[b]

/-- Change one binding record. -/
def State.updBinding (s : State) (b : BindingNo) (f : Binding → Binding) : State :=
  { s with bindings := s.bindings.set b (f (s.binding b)) }

/-- Change the assembly state of a binding. -/
def State.updAsm (s : State) (b : BindingNo) (f : Assembly → Assembly) : State :=
  s.updBinding b (fun r => { r with asm := f r.asm })

/-- Change what Frame Accounting keeps for a binding. -/
def State.updAcct (s : State) (b : BindingNo) (f : Accounting → Accounting) : State :=
  s.updBinding b (fun r => { r with acct := f r.acct })

/-- Change the coordination state of a binding. -/
def State.updCoord (s : State) (b : BindingNo) (f : Coordination → Coordination) : State :=
  s.updBinding b (fun r => { r with coord := f r.coord })

/-- A port. -/
def State.port (s : State) (p : PortNo) : Port := s.ports[p]

/-- Change one port. -/
def State.updPort (s : State) (p : PortNo) (f : Port → Port) : State :=
  { s with ports := s.ports.set p (f (s.port p)) }

/-- A tag. -/
def State.tag (s : State) (g : Tag) : TagState := s.store.tags[g]

/-- Set one tag. -/
def State.setTag (s : State) (g : Tag) (v : TagState) : State :=
  { s with store := { s.store with tags := s.store.tags.set g v } }

/-- Change every tag. -/
def State.updTags (s : State) (f : TagState → TagState) : State :=
  allTags.foldl (fun s g => s.setTag g (f (s.tag g))) s

/-- Change the Store Port's state. -/
def State.updStore (s : State) (f : Store → Store) : State := { s with store := f s.store }

/-- Change the Lane Controller's state. -/
def State.updLane (s : State) (f : Lane → Lane) : State := { s with lane := f s.lane }

/-- Change the house time state. -/
def State.updHouse (s : State) (f : House → House) : State := { s with house := f s.house }

/-- Change the node counters. -/
def State.updCounters (s : State) (f : NodeCounters → NodeCounters) : State := { s with counters := f s.counters }

/-- ARMED, RECORDING and FINISHING: the states in which a binding's timed and counted work is done (R126, R23). -/
def BindingState.active : BindingState → Bool
  | .idle => false
  | .armed => true
  | .recording => true
  | .finishing => true
  | .draining => false

/-- Whether a binding is in ARMED, RECORDING or FINISHING. -/
def State.isActive (s : State) (b : BindingNo) : Bool := (s.binding b).state.active

/-- The bindings in ARMED, RECORDING or FINISHING, in increasing order. -/
def State.activeBindings (s : State) : List BindingNo := allBindings.filter (fun b => s.isActive b)

/-- The bindings that are not IDLE, in increasing order. -/
def State.busyBindings (s : State) : List BindingNo := allBindings.filter (fun b => (s.binding b).state ≠ .idle)

/-- The binding in ARMED, RECORDING or FINISHING that has a clip; there is at most one (R11). -/
def State.activeFor (s : State) (clip : Clip) : Option BindingNo :=
  s.activeBindings.find? (fun b => (s.binding b).clip = some clip)

/-- Raise one binding counter by `k` (R23). -/
def BindingCounters.raise (c : BindingCounters) (k : Nat) : BindingCounter → BindingCounters
  | .pieces => { c with pieces := bump c.pieces k }
  | .duplicates => { c with duplicates := bump c.duplicates k }
  | .late => { c with late := bump c.late k }
  | .early => { c with early := bump c.early k }
  | .inconsistent => { c with inconsistent := bump c.inconsistent k }
  | .afterEnd => { c with afterEnd := bump c.afterEnd k }
  | .complete => { c with complete := bump c.complete k }
  | .incomplete => { c with incomplete := bump c.incomplete k }
  | .unseen => { c with unseen := bump c.unseen k }
  | .drops => { c with drops := bump c.drops k }
  | .roomSkips => { c with roomSkips := bump c.roomSkips k }
  | .oversize => { c with oversize := bump c.oversize k }
  | .red => { c with red := bump c.red k }
  | .yellow => { c with yellow := bump c.yellow k }
  | .liveWrites => { c with liveWrites := bump c.liveWrites k }
  | .fills => { c with fills := bump c.fills k }
  | .yields => { c with yields := bump c.yields k }
  | .failedJobs => { c with failedJobs := bump c.failedJobs k }
  | .browseFrames => { c with browseFrames := bump c.browseFrames k }
  | .thinned => { c with thinned := bump c.thinned k }
  | .browseHoles => { c with browseHoles := bump c.browseHoles k }

/-- Count `k` events of a binding; nothing is counted in DRAINING or IDLE (R23). -/
def State.count (s : State) (b : BindingNo) (c : BindingCounter) (k : Nat := 1) : State :=
  if s.isActive b then s.updBinding b (fun r => { r with counters := r.counters.raise k c }) else s

/-! ## The frame table and the cell pool -/

/-- The frame record at an index of the frame table, if it is in use. -/
def State.frame? (s : State) (index : Nat) : Option FrameRecord :=
  s.frames.find? (fun f => f.index = index)

/-- Change one frame record. -/
def State.updFrame (s : State) (index : Nat) (g : FrameRecord → FrameRecord) : State :=
  { s with frames := s.frames.map (fun f => if f.index = index then g f else f) }

/-- The lowest index that no record of a table in increasing order of index has, from `n` on. Which free record is
taken cannot be seen (log entry 5). -/
def freeIndex : Nat → List FrameRecord → Nat
  | n, [] => n
  | n, f :: fs => if f.index = n then freeIndex (n + 1) fs else n

/-- Put a record into a table in increasing order of index. -/
def insertFrame (f : FrameRecord) : List FrameRecord → List FrameRecord
  | [] => [f]
  | x :: xs => if f.index < x.index then f :: x :: xs else x :: insertFrame f xs

/-- Free a frame record: its cells return to the free list and the record to the table (R67). -/
def State.freeFrame (s : State) (index : Nat) : State :=
  match s.frame? index with
  | none => s
  | some f =>
    { s with
      frames := s.frames.filter (fun x => x.index ≠ index)
      freeCells := s.freeCells + f.cells.length }

/-- The Coordination Unit makes a record RELEASED; it is freed at once where no user remains (R64). -/
def State.releaseFrame (s : State) (index : Nat) : State :=
  match s.frame? index with
  | none => s
  | some f =>
    if f.users = 0 then s.freeFrame index
    else s.updFrame index (fun x => { x with state := .released })

/-- One user of a record is given back; a WRITING or RELEASED record left with none is freed, and a user given back for
a record already free is ignored (R64). -/
def State.giveBack (s : State) (index : Nat) : State :=
  match s.frame? index with
  | none => s
  | some f =>
    if f.users ≤ 1 ∧ (f.state = .writing ∨ f.state = .released) then s.freeFrame index
    else s.updFrame index (fun x => { x with users := x.users - 1 })

/-- The cells held by all frame records of a binding (R65). -/
def State.holding (s : State) (b : BindingNo) : Nat :=
  ((s.frames.filter (fun f => f.binding = b)).map (fun f => f.cells.length)).sum

/-- The quota of a binding: 16384 div the number of bindings not IDLE (R65). -/
def State.quota (s : State) : Nat := Config.poolCells / s.busyBindings.length

/-! ## The notice queue (R175 to R178) -/

/-- The notices that replacement, merging and eviction may not touch: the head while it is in SENDING (R169). -/
def Lane.locked (l : Lane) : List Notice := if l.tx = .sending then l.queue.take 1 else []

/-- The notices open to replacement, merging and eviction. -/
def Lane.openNotices (l : Lane) : List Notice := if l.tx = .sending then l.queue.drop 1 else l.queue

/-- A SOURCE or a PRESENCE, which another kind may evict (R178). -/
def Notice.evictable : Notice → Bool
  | .source .. => true
  | .presence .. => true
  | .take .. => false
  | .decline .. => false
  | .extent .. => false
  | .done .. => false
  | .bindingStats .. => false
  | .nodeStats .. => false
  | .portStats .. => false

/-- Whether a queued notice is the one that a new notice replaces: a TAKE for the same clip, a PRESENCE (R176). -/
def Notice.replaces : Notice → Notice → Bool
  | .take c .., .take d .. => decide (c = d)
  | .presence _, .presence _ => true
  | _, _ => false

/-- A new EXTENT merged into the newest open EXTENT for its clip, in a queue listed newest first: the queue and the
runs left over; none where no queued EXTENT is open to merging (R177). -/
def mergeExtentNotice (clip : Clip) (role : Role) (through : Nat) (runs : List Run) :
    List Notice → Option (List Notice × List Run)
  | [] => none
  | .extent c r th q :: rest =>
    if c = clip then
      if q.length < Config.noticeRuns ∨ runs = [] then
        some (.extent c role through (mergeRuns q runs).1 :: rest, (mergeRuns q runs).2)
      else none
    else (mergeExtentNotice clip role through runs rest).map (fun x => (.extent c r th q :: x.1, x.2))
  | n :: rest => (mergeExtentNotice clip role through runs rest).map (fun x => (n :: x.1, x.2))

/-- A notice joins the tail of the queue; a transmitter that was IDLE enters DEFER (R167). -/
def Lane.join (l : Lane) (n : Notice) : Lane :=
  { l with queue := l.queue ++ [n], tx := if l.tx = .idle then .defer else l.tx }

/-- The oldest evictable notice that is not in SENDING leaves the queue. One that was at the head takes its attempt
count with it, and the transmitter enters DEFER for the new head (R178). -/
def Lane.evict (l : Lane) : Lane :=
  if l.tx = .sending then { l with queue := l.locked ++ l.openNotices.eraseP Notice.evictable }
  else if (l.queue.head?.map Notice.evictable) = some true then
    { l with queue := l.queue.drop 1, attempts := 0, tx := .defer }
  else { l with queue := l.queue.eraseP Notice.evictable }

/-- A notice that needs a place joins the queue, evicts a SOURCE or PRESENCE, or is dropped (R178). -/
def State.place (s : State) (n : Notice) : State :=
  if s.lane.queue.length < Config.queueNotices then s.updLane (fun l => l.join n)
  else if n.evictable then s
  else if s.lane.openNotices.any Notice.evictable then s.updLane (fun l => l.evict.join n)
  else s.updCounters (fun c => { c with queueDrops := bump c.queueDrops 1 })

/-- The lane is heard and spoken on in RUNNING and RESTARTING (R191). -/
def State.onLane (s : State) : Bool := decide (s.node = .running ∨ s.node = .restarting)

/-- A notice is offered to the notice queue: replacement (R176), merging (R177), then R178. Two TAKEs of one clip can be open,
after one in SENDING has met a collision; a new one replaces both (DESIGN CHOICE, log entry 38). -/
def State.offer (s : State) (n : Notice) : State :=
  if s.onLane then
    if s.lane.openNotices.any (Notice.replaces n) then
      s.updLane (fun l =>
        { l with queue := l.locked ++ l.openNotices.map (fun q => if n.replaces q then n else q) })
    else
      match n with
      | .extent clip role through runs =>
        match mergeExtentNotice clip role through runs s.lane.openNotices.reverse with
        | none => s.place n
        | some (merged, rest) =>
          let s := s.updLane (fun l => { l with queue := l.locked ++ merged.reverse })
          if rest = [] then s else s.place (.extent clip role through rest)
      | _ => s.place n
  else s

/-- Whether the queue can accept a DONE (R20). -/
def State.canAcceptDone (s : State) : Bool :=
  decide (s.lane.queue.length < Config.queueNotices) || s.lane.openNotices.any Notice.evictable

/-! ## Extent maps and reports -/

/-- A run enters the report buffer of a binding (R122). -/
def State.report (s : State) (b : BindingNo) (r : Run) : State :=
  let entered := enterReport (s.binding b).coord.report r
  (s.updCoord b (fun c => { c with report := entered.1 })).updCounters
    (fun c => { c with reportsLost := bump c.reportsLost entered.2 })

/-- A range of one kind is inserted into a binding's extent map, and the own through advances. R108's trim is part of the
insertion, and the through value is read from the map after it (R107, R108, R121; DEDUCED, log entry 36). -/
def State.insertExtent (s : State) (b : BindingNo) (k : ExtentKind) (lo hi : Nat) : State :=
  let e := (s.binding b).effEnd
  s.updCoord b (fun c =>
    let m := insertInto e k lo hi c.map
    { c with
      map := m
      ownThrough := if lo < min hi e then min e (reachOf ExtentKind.decides c.ownThrough m) else c.ownThrough })

/-- Whether a binding is PRIMARY. -/
def State.isPrimary (s : State) (b : BindingNo) : Bool := decide ((s.binding b).coord.role = .primary)

/-- An own gap: the range is inserted as OWN-GAP and, at PRIMARY, enters the report buffer as a GAP run (R120). -/
def State.ownGap (s : State) (b : BindingNo) (lo hi : Nat) : State :=
  if lo < hi then
    let s' := s.insertExtent b .ownGap lo hi
    if s.isPrimary b then s'.report b ⟨lo, hi, .gap⟩ else s'
  else s

/-- A frame yields: a peer has stored it (R109, R113). -/
def State.yieldFrame (s : State) (b : BindingNo) (index : Nat) : State :=
  (s.releaseFrame index).count b .yields

/-- A held frame that an inserted range meets and whose kept span, as far as it lies below E, is covered (R113). -/
def Held.yields (m : List Extent) (effEnd : Nat) (ranges : List (Nat × Nat)) (h : Held) : Bool :=
  ranges.any (fun r => decide (r.1 < h.stop ∧ h.position < r.2)) && coveredIn m h.position (min h.stop effEnd)

/-- Ranges of positions clipped at E, less those that are then empty (R107). -/
def clipRanges (effEnd : Nat) (ranges : List (Nat × Nat)) : List (Nat × Nat) :=
  (ranges.map (fun r => (r.1, min r.2 effEnd))).filter (fun r => r.1 < r.2)

/-- The held frames are tested for covering after insertions of the ranges (R113). -/
def State.yieldCovered (s : State) (b : BindingNo) (ranges : List (Nat × Nat)) : State :=
  let r := s.binding b
  let gone := r.coord.held.filter (Held.yields r.coord.map r.effEnd ranges)
  let s := s.updCoord b (fun c =>
    { c with held := c.held.filter (fun h => !(Held.yields r.coord.map r.effEnd ranges h)) })
  gone.foldl (fun s h => s.yieldFrame b h.frame) s

/-! ## Class queues and jobs (R127, R135, R143) -/

/-- The queue of a class. -/
def Store.queue (st : Store) : JobClass → List Job
  | .live => st.live
  | .fill => st.fill
  | .browse => st.browse

/-- Set the queue of a class; a queue that is empty has the current value 0 (R136). -/
def Store.setQueue (st : Store) (c : JobClass) (q : List Job) : Store :=
  match c with
  | .live => { st with live := q, currentLive := if q = [] then 0 else st.currentLive }
  | .fill => { st with fill := q, currentFill := if q = [] then 0 else st.currentFill }
  | .browse => { st with browse := q, currentBrowse := if q = [] then 0 else st.currentBrowse }

/-- The jobs of the three class queues, in the order of the queues (R146). -/
def Store.jobs (st : Store) : List Job := st.live ++ st.fill ++ st.browse

/-- Whether a job is the one that a transaction names. -/
def Job.is (j : Job) (kind : JobKind) (frame : Nat) : Bool := decide (j.kind = kind ∧ j.frame = frame)

/-- A job leaves its class queue. -/
def State.dropJob (s : State) (j : Job) : State :=
  s.updStore (fun st => st.setQueue j.cls ((st.queue j.cls).filter (fun x => !x.is j.kind j.frame)))

/-- The transactions in flight of a job that has failed go on with their outcomes ignored (R141). -/
def State.endTransactions (s : State) (kind : JobKind) (frame : Nat) : State :=
  s.updTags (fun g =>
    match g with
    | .busy tx =>
      match tx.owner with
      | .job k b f _ => if k = kind ∧ f = frame then .busy { tx with owner := .ended b } else g
      | _ => g
    | _ => g)

/-- The failure of a job is told to the block that handed it over, and its user is given back (R143, R163). -/
def State.tellFailure (s : State) (j : Job) : State :=
  match j.kind with
  | .essence => (((s.ownGap j.binding j.start j.stop).count j.binding .failedJobs)).giveBack j.frame
  | .browse => (s.count j.binding .browseHoles).giveBack j.frame

/-- A taken job fails: its unissued transactions are dropped, those in flight go on ignored, it leaves its queue, and
its failure is told (R141). -/
def State.failJob (s : State) (j : Job) : State :=
  ((s.endTransactions j.kind j.frame).dropJob j).tellFailure j

/-- A job is handed over: it is taken when the link is UP and its queue holds fewer than 256 jobs, and fails at once
otherwise (R127). -/
def State.handOver (s : State) (j : Job) : State :=
  if s.store.link = .up ∧ (s.store.queue j.cls).length < Config.queueJobs then
    s.updStore (fun st => st.setQueue j.cls (st.queue j.cls ++ [j]))
  else s.tellFailure j

/-- ceil(a / b). -/
def ceilDiv (a b : Nat) : Nat := (a + b - 1) / b

/-- The essence job of a frame, as it is built at its hand-over (R111, R128). -/
def essenceJob (cls : JobClass) (b : BindingNo) (f : FrameRecord) (effEnd : Nat) : Job :=
  let bodies := ceilDiv f.pieces Config.piecesPerTransaction
  { cls := cls, kind := .essence, binding := b, frame := f.index, start := f.spanStart,
    stop := min f.spanEnd effEnd, phase := .body, todo := List.range bodies, left := bodies, retried := [] }

/-- The browse job of a frame chosen for a browse slot (R161). -/
def browseJob (b : BindingNo) (f : FrameRecord) (slot : Nat) : Job :=
  let bodies := ceilDiv f.base Config.piecesPerTransaction
  { cls := .browse, kind := .browse, binding := b, frame := f.index, start := slot, stop := slot + 1,
    phase := .body, todo := List.range bodies, left := bodies, retried := [] }

/-- Whether browse is on for a binding (R152). -/
def Binding.browseOn (r : Binding) : Bool := decide (r.terms.browseCells ≠ 0)

/-- A frame is sent to be written, live or as a fill: its record becomes WRITING, its essence job is handed over, and
with browse on the frame then reaches the Browse Unit (R111, R153). -/
def State.writeFrame (s : State) (b : BindingNo) (index : Nat) (cls : JobClass) (c : BindingCounter) : State :=
  match s.frame? index with
  | none => s
  | some f =>
    let on := (s.binding b).browseOn
    let s := (s.updFrame index (fun x => { x with state := .writing, users := if on then 2 else 1 })).count b c
    let s := s.handOver (essenceJob cls b f (s.binding b).effEnd)
    if on then s.updBinding b (fun r => { r with undecided := r.undecided ++ [index] }) else s

/-- A frame is written live (R111). -/
def State.writeLive (s : State) (b : BindingNo) (index : Nat) : State := s.writeFrame b index .live .liveWrites

/-- A frame is filled (R114). -/
def State.writeFill (s : State) (b : BindingNo) (index : Nat) : State := s.writeFrame b index .fill .fills

/-- A held frame leaves the held-frame list. -/
def State.unhold (s : State) (b : BindingNo) (index : Nat) : State :=
  s.updCoord b (fun c => { c with held := c.held.filter (fun h => h.frame ≠ index) })

/-- A held frame is filled: it leaves the list and its essence job is handed over for FILL (R114). -/
def State.fillHeld (s : State) (b : BindingNo) (h : Held) : State :=
  (s.unhold b h.frame).writeFill b h.frame

/-- Held frames are filled one after another, in the order of the list. -/
def State.fillAll (s : State) (b : BindingNo) (hs : List Held) : State :=
  hs.foldl (fun s h => s.fillHeld b h) s

/-- One pressure test: a binding in SETTLING or SHADOW whose holding is at or above its early-release level fills its
held frame of lowest stored position (R116; DEDUCED, log entry 10). -/
def State.pressureTest (s : State) (b : BindingNo) : State :=
  if s.isActive b ∧ ¬ s.isPrimary b ∧ 3 * s.quota / 4 ≤ s.holding b then
    match (s.binding b).coord.held with
    | [] => s
    | h :: _ => s.fillHeld b h
  else s

/-! ## Roles and grades -/

/-- A binding in ARMED, RECORDING or FINISHING offers a TAKE (R98). -/
def State.offerTake (s : State) (b : BindingNo) : State :=
  let r := s.binding b
  if r.state.active then
    match r.clip with
    | none => s
    | some clip => s.offer (.take clip r.acct.grade r.coord.role r.coord.primary)
  else s

/-- Every held frame is written live, in increasing order of stored position (R117). -/
def State.promote (s : State) (b : BindingNo) : State :=
  let held := (s.binding b).coord.held
  held.foldl (fun s h => s.writeLive b h.frame) (s.updCoord b (fun c => { c with held := [] }))

/-- One station ranks ahead of another: by grade, higher first, then by station number, lower first (R99, R103). -/
def ranksAhead (a b : Station × Nat) : Bool :=
  decide (b.2 < a.2 ∨ (a.2 = b.2 ∧ a.1 < b.1))

/-- The highest-ranked of a station and those of a list (R103). -/
def bestOf (first : Station × Nat) (others : List (Station × Nat)) : Station × Nat :=
  others.foldl (fun best x => if ranksAhead x best then x else best) first

/-- The best station for a binding: the node itself or a taker (R103). -/
def State.bestStation (s : State) (b : BindingNo) : Station × Nat :=
  let r := s.binding b
  bestOf (s.opts.station, r.acct.grade) (r.coord.takers.map (fun t => (t.station, t.grade)))

/-- The grade of a primary-in-view, none where it is another station no longer in the taker list (R103). -/
def State.viewGrade (s : State) (b : BindingNo) (view : Station) : Option Nat :=
  let r := s.binding b
  if view = s.opts.station then some r.acct.grade
  else (r.coord.takers.find? (fun t => t.station = view)).map (fun t => t.grade)

/-- The primary-in-view becomes `best`: the role follows, the primary through becomes absent, a TAKE is offered, and a
binding that becomes PRIMARY promotes its held frames (R104). -/
def State.changeView (s : State) (b : BindingNo) (best : Station) : State :=
  let role := if best = s.opts.station then Role.primary else Role.shadow
  let s := (s.updCoord b (fun c =>
    { c with primary := some best, role := role, primaryThrough := none })).offerTake b
  if role = .primary then s.promote b else s

/-- Whether an evaluation changes the primary-in-view to the best station (R103). -/
def State.viewChanges (s : State) (b : BindingNo) : Bool :=
  match (s.binding b).coord.primary with
  | none => true
  | some p =>
    if p = (s.bestStation b).1 then false
    else
      match s.viewGrade b p with
      | none => true
      | some g => decide (g + s.opts.margin ≤ (s.bestStation b).2)

/-- A binding in ARMED, RECORDING or FINISHING whose role is not SETTLING is evaluated (R103). -/
def State.evaluate (s : State) (b : BindingNo) : State :=
  if s.isActive b ∧ (s.binding b).coord.role ≠ .settling ∧ s.viewChanges b then s.changeView b (s.bestStation b).1
  else s

/-- The quality code that the grade uses (R90). -/
def State.qualityOf (s : State) (b : BindingNo) : BitVec 8 :=
  match (s.binding b).acct.lastQuality with
  | some q => q
  | none =>
    match s.sources.find? (fun e => e.bound = some b) with
    | some e => e.quality
    | none => 0

/-- The grade of a binding as its inputs stand (R92). -/
def State.gradeOf (s : State) (b : BindingNo) : Nat :=
  let r := s.binding b
  if r.state.active = false ∨ r.acct.silent ∨ s.store.link ≠ .up then 0
  else s.opts.grades.getD (s.qualityOf b).toNat 0 - (r.acct.history.filter (fun o => o ≠ .complete)).length

/-- The grade is recomputed; a changed grade is told to the Coordination Unit, which offers a TAKE and evaluates the
binding (R93, R98, R103; DEDUCED, log entry 11). -/
def State.recomputeGrade (s : State) (b : BindingNo) : State :=
  let g := s.gradeOf b
  if g = (s.binding b).acct.grade then s
  else ((s.updAcct b (fun a => { a with grade := g })).offerTake b).evaluate b

/-- Every grade is recomputed after a change of the store link state, in the order chosen (R93). -/
def State.recomputeGrades (s : State) (order : List Nat) : State :=
  (arrange order s.activeBindings).foldl (fun s b => s.recomputeGrade b) s

end Sys2Proof.Machine
end

