-- ==== Sys2Proof/Machine/Operands.lean ====
section
/-! DEFINITION. Reading what the commands carry: the checks of a piece (R26), the clamps and checks of a request (R7,
R8), the option record and its clamps (R189, R190, R202), and the audio of a piece (R94). -/

namespace Sys2Proof.Machine

/-! ## Pieces -/

/-- The header ranges of R26, step 2. -/
def headerGood (p : Piece) : Bool :=
  decide (p.source ≠ 0 ∧ p.stream.toNat ≤ 3 ∧ 1 ≤ p.pieces.toNat ∧ p.pieces.toNat ≤ 1024 ∧
    p.index.toNat < p.pieces.toNat ∧ 1 ≤ p.base.toNat ∧ p.base.toNat ≤ p.pieces.toNat ∧
    p.audio.toNat ≤ p.pieces.toNat - p.base.toNat ∧ p.quality.toNat ≤ 15)

/-- A piece is good when its CRC agrees and its header is within its ranges (R26). -/
def pieceGood (p : Piece) : Bool := decide (p.crc = expectedCrc p) && headerGood p

/-- A payload length that a receiver can frame (R25). -/
def lengthGood (len : Nat) : Bool := decide (1 ≤ len ∧ len ≤ Config.cellBytes)

/-- Whether a piece of a frame is an audio piece (R94). -/
def isAudio (index pieces audio : Nat) : Bool := decide (pieces - audio ≤ index ∧ index < pieces)

/-- The magnitude of a 24-bit sample, that of −8,388,608 taken as 8,388,607 (R95). -/
def magnitude (hi mid lo : Byte) : Nat :=
  let v := hi.toNat * 65536 + mid.toNat * 256 + lo.toNat
  if v < 8388608 then v else min 8388607 (16777216 - v)

/-- The samples of a payload, each raising the running maximum of its channel (R94, R95). `left` counts the bytes of
the whole groups not yet read. -/
def readSamples (channels : Nat) : Nat → Nat → List Byte → Vector Nat 4 → Vector Nat 4
  | left, j, hi :: mid :: lo :: rest, m =>
    if left < 3 then m
    else
      let k : Fin 4 := Fin.ofNat 4 j
      readSamples channels (left - 3) (if j + 1 < channels then j + 1 else 0) rest
        (m.set k (max m[k] (magnitude hi mid lo)))
  | _, _, _, m => m

/-- The running maxima after an audio piece's payload is read (R94). -/
def readAudio (channels : Nat) (payload : List Byte) (m : Vector Nat 4) : Vector Nat 4 :=
  if channels = 0 then m
  else readSamples channels (payload.length / (3 * channels) * (3 * channels)) 0 payload m

/-- The stored peaks of a completed frame (R95). -/
def storedPeaks (channels : Nat) (m : Vector Nat 4) : Vector Nat 4 :=
  #v[if 0 < channels then m[0] / 128 else 0, if 1 < channels then m[1] / 128 else 0,
    if 2 < channels then m[2] / 128 else 0, if 3 < channels then m[3] / 128 else 0]

/-! ## Requests -/

/-- The clamp of the browse divisor (R7). -/
def clampDivisor (d : Nat) : Nat := if d = 0 then 1 else min d 64

/-- The clamp of the browse cells (R7): 0 is browse off. -/
def clampBrowseCells (c : Nat) : Nat := if c ≤ 1 then 0 else c

/-- The clamp of CBS, against the slot bytes as received (R7). -/
def clampCbs (slotCells cbs : Nat) : Nat := min 67108864 (max cbs (slotCells * Config.cellBytes))

/-- The clamp of the patience override (R7). -/
def clampPatience (p : Nat) : Option Nat := if p = 0 then none else some (clampTo 2000 1000000 p)

/-- The terms of a request after the clamps of R7. -/
def clampRequest (r : Request) : Terms :=
  let cells := clampBrowseCells r.browseCells.toNat
  { source := r.source, stream := r.stream, anchor := r.anchor, hn := r.hn.toNat, hd := r.hd.toNat, fn := r.fn.toNat,
    fd := r.fd.toNat, clipLength := r.clipLength.toNat, slotCells := r.slotCells.toNat, audio := r.audio.toNat,
    browseCells := cells, divisor := clampDivisor r.divisor.toNat, rate := min 2000000 r.rate.toNat,
    cbs := clampCbs r.slotCells.toNat r.cbs.toNat, ebs := min 67108864 r.ebs.toNat,
    patience := clampPatience r.patience.toNat, essenceBase := r.essenceBase.toNat, indexBase := r.indexBase.toNat,
    browseBase := if cells = 0 then none else some r.browseBase.toNat }

/-- The bytes of an essence slot. -/
def Terms.slotBytes (t : Terms) : Nat := t.slotCells * Config.cellBytes

/-- The sizes of the three areas (R8, codes 12 to 14). -/
def Terms.essenceSize (t : Terms) : Nat := t.clipLength * t.slotBytes

/-- The size of the index area (R8, code 13). -/
def Terms.indexSize (t : Terms) : Nat := t.clipLength * 32

/-- The size of the browse area (R8, code 14). -/
def Terms.browseSize (t : Terms) : Nat := ceilDiv t.clipLength t.divisor * t.browseCells * Config.cellBytes

/-- Two areas overlap when each begins below the other's end (R8). -/
def overlap (base size base' size' : Nat) : Bool := decide (base < base' + size' ∧ base' < base + size)

/-- A check against the browse area, which applies only with browse on (R8). -/
def browseCheck (t : Terms) (test : Nat → Bool) : Bool :=
  match t.browseBase with
  | none => false
  | some base => test base

/-- The checks of R8 in the order of their field codes, each true when it fails. -/
def parameterChecks (clip : Clip) (t : Terms) : List (Nat × Bool) :=
  [(1, decide (clip = 0)), (2, decide (t.hn = 0)), (3, decide (t.hd = 0)), (4, decide (t.fn = 0)),
    (5, decide (t.fd = 0)), (6, decide (t.clipLength = 0)), (7, decide (t.slotCells = 0 ∨ 1024 < t.slotCells)),
    (8, decide (4 < t.audio)), (9, decide (t.essenceBase % 1024 ≠ 0)), (10, decide (t.indexBase % 1024 ≠ 0)),
    (11, browseCheck t (fun b => decide (b % 1024 ≠ 0))),
    (12, decide (Config.storeSpace < t.essenceBase + t.essenceSize)),
    (13, decide (Config.storeSpace < t.indexBase + t.indexSize)),
    (14, browseCheck t (fun b => decide (Config.storeSpace < b + t.browseSize))),
    (15, overlap t.essenceBase t.essenceSize t.indexBase t.indexSize),
    (16, browseCheck t (fun b => overlap t.essenceBase t.essenceSize b t.browseSize)),
    (17, browseCheck t (fun b => overlap t.indexBase t.indexSize b t.browseSize))]

/-- The field code of the first check that fails (R8). -/
def failedCheck (clip : Clip) (t : Terms) : Option Nat :=
  ((parameterChecks clip t).find? (fun c => c.2)).map (fun c => c.1)

/-! ## The option record -/

/-- A record passes both checks of R189. -/
def optionsValid (bytes : List Byte) : Bool :=
  decide ((crc16 (bytes.take 69)).toNat = field bytes 69 2 ∧ field bytes 0 1 % 32 ≠ 0)

/-- The options of a record, clamped (R190, R202). -/
def readOptions (bytes : List Byte) : Options :=
  { station := Fin.ofNat 32 (field bytes 0 1)
    enables := BitVec.ofNat 8 (field bytes 1 1)
    ageTimeout := clampTo 1 60 (field bytes 2 2)
    storeTimeout := clampTo 1 255 (field bytes 4 1)
    weightLive := clampTo 1 15 (field bytes 5 1)
    weightFill := clampTo 1 15 (field bytes 6 1)
    weightBrowse := clampTo 1 15 (field bytes 7 1)
    strict := decide (field bytes 8 1 ≠ 0)
    pace := field bytes 9 1
    window := clampTo 1 250 (field bytes 10 1)
    margin := min 7 (field bytes 11 1)
    takerTimeout := clampTo 100 5000 (field bytes 12 2)
    presence := clampTo 50 2000 (field bytes 14 2)
    extentPeriod := clampTo 1 50 (field bytes 16 1)
    housePeriod := clampTo 10000 100000 (field bytes 17 4)
    grades := (List.range 16).map (fun i => min 7 (field bytes (21 + i) 1))
    thinning := (List.range 16).map (fun i => min 1023 (field bytes (37 + 2 * i) 2)) }

/-- Whether a port is enabled (R32). -/
def Options.enabled (o : Options) (p : PortNo) : Bool := o.enables.getLsbD p.val

end Sys2Proof.Machine
end

