-- ==== Sys2Proof/Machine/StorePort.lean ====
section
/-! DEFINITION. The Store Port Controller (chapter 7): transactions and their data, the arbiter, completions, timeouts,
and the store link. -/

namespace Sys2Proof.Machine

/-! ## Transactions of a job (R128, R129, R161) -/

/-- The pieces `lo` to `hi` − 1 of a frame, each padded to 1024 bytes (R128). -/
def pieceData (f : FrameRecord) (lo hi : Nat) : List Byte :=
  (f.cells.filter (fun c => lo ≤ c.1 ∧ c.1 < hi)).flatMap (fun c => paddedCell c.2)

/-- The index record of a position of a frame's job (R129). -/
def indexRecord (t : Terms) (f : FrameRecord) (p : Nat) : List Byte :=
  if p = f.spanStart then frameRecordBytes t f else repeatRecordBytes t f.spanStart p

/-- The start of a browse slot (R154). -/
def browseSlotAt (t : Terms) (slot : Nat) : Nat :=
  t.browseBase.getD 0 + slot * t.browseCells * Config.cellBytes

/-- The address and the data of the transaction of a job with index `i` in the job's present phase. -/
def transactionOf (t : Terms) (f : FrameRecord) (j : Job) (i : Nat) : Nat × List Byte :=
  let lo := Config.piecesPerTransaction * i
  let first := j.start + Config.recordsPerTransaction * i
  match j.kind, j.phase with
  | .essence, .body =>
    (essenceSlot t j.start + lo * Config.cellBytes, pieceData f lo (min (lo + Config.piecesPerTransaction) f.pieces))
  | .essence, .records =>
    (t.indexBase + first * 32,
      (List.range (min (first + Config.recordsPerTransaction) j.stop - first)).flatMap
        (fun k => indexRecord t f (first + k)))
  | .browse, .body =>
    (browseSlotAt t j.start + Config.cellBytes + lo * Config.cellBytes,
      pieceData f lo (min (lo + Config.piecesPerTransaction) f.base))
  | .browse, .records => (browseSlotAt t j.start, browseRecordBytes t f j.start)

/-- The number of record transactions of a job (R129, R161). -/
def recordTransactions (j : Job) : Nat :=
  match j.kind with
  | .essence => ceilDiv (j.stop - j.start) Config.recordsPerTransaction
  | .browse => 1

/-! ## The arbiter (R135 to R137) -/

/-- Whether a tag is free. -/
def State.tagFree (s : State) (g : Tag) : Bool := decide (s.tag g = .free)

/-- The free tag that a transaction takes: the one the part chose, or the lowest free one where that is not free (DESIGN
CHOICE, log entry 3). -/
def State.pickTag (s : State) (g : Tag) : Option Tag :=
  if s.tagFree g then some g else allTags.find? (fun x => s.tagFree x)

/-- The oldest job of a class with a ready transaction (R135). A transaction to be retried waits at the front of its own
job, so that an older ready job goes first even at the next grant (R140; DEDUCED, log entry 37). Two browse jobs of one slot may
so interleave, as R135 lets any two jobs of a class (R164; DESIGN CHOICE, log entry 44). -/
def Store.readyJob (st : Store) (c : JobClass) : Option Job := (st.queue c).find? (fun j => j.todo ≠ [])

/-- Whether a class is eligible to be granted (R135). -/
def State.eligible (s : State) (c : JobClass) : Bool :=
  decide (s.store.link = .up) && allTags.any (fun g => s.tagFree g) && decide (s.node = .running) &&
    (s.store.readyJob c).isSome && (decide (c ≠ .browse) || s.store.pacing.isNone)

/-- The weight of a class (R136). -/
def Options.weight (o : Options) : JobClass → Nat
  | .live => o.weightLive
  | .fill => o.weightFill
  | .browse => o.weightBrowse

/-- The current value of a class (R136). -/
def Store.current (st : Store) : JobClass → Int
  | .live => st.currentLive
  | .fill => st.currentFill
  | .browse => st.currentBrowse

/-- Set the current value of a class. -/
def Store.setCurrent (st : Store) (c : JobClass) (v : Int) : Store :=
  match c with
  | .live => { st with currentLive := v }
  | .fill => { st with currentFill := v }
  | .browse => { st with currentBrowse := v }

/-- The eligible classes, in the order LIVE, FILL, BROWSE. -/
def State.eligibleClasses (s : State) : List JobClass :=
  [JobClass.live, .fill, .browse].filter (fun c => s.eligible c)

/-- The first class of a list with the greatest value: among equal values the lower class (R136). -/
def greatest (v : JobClass → Int) : List JobClass → Option JobClass
  | [] => none
  | c :: cs =>
    match greatest v cs with
    | none => some c
    | some d => if v c < v d then some d else some c

/-- The class that the arbiter grants: by strict priority or by weight (R136, R137). -/
def State.winner (s : State) : Option JobClass :=
  if s.opts.strict then s.eligibleClasses.head?
  else greatest (fun c => s.store.current c + s.opts.weight c) s.eligibleClasses

/-- The current values after a weighted grant (R136). -/
def State.weigh (s : State) (won : JobClass) : State :=
  if s.opts.strict then s
  else
    let sum : Int := (s.eligibleClasses.map (fun c => (s.opts.weight c : Int))).sum
    s.updStore (fun st =>
      let st := s.eligibleClasses.foldl (fun st c => st.setCurrent c (st.current c + s.opts.weight c)) st
      st.setCurrent won (st.current won - sum))

/-- A transaction leaves the part under a tag, its timeout one store timeout ahead (R138). -/
def State.issue (s : State) (g : Tag) (owner : TxOwner) (retried : Bool) (address : Nat) (data : List Byte) : State :=
  s.setTag g (.busy
    { owner := owner, retried := retried, address := address, data := data, deadline := s.now + ms s.opts.storeTimeout })

/-- Change a job in its queue. -/
def State.updJob (s : State) (j : Job) (f : Job → Job) : State :=
  s.updStore (fun st =>
    st.setQueue j.cls ((st.queue j.cls).map (fun x => if x.is j.kind j.frame then f x else x)))

/-- A granted class issues the first ready transaction of its oldest job that has one, and a BROWSE transaction starts
the pacing hold (R135, R137, R138). -/
def State.issueFrom (s : State) (c : JobClass) (g : Tag) : State :=
  match s.store.readyJob c with
  | none => s
  | some j =>
    match j.todo, s.frame? j.frame with
    | i :: rest, some f =>
      let tx := transactionOf (s.binding j.binding).terms f j i
      let s := s.updJob j (fun x => { x with todo := rest })
      let s := s.issue g (.job j.kind j.binding j.frame i) (decide (i ∈ j.retried)) tx.1 tx.2
      let ns := tx.2.length * s.opts.pace
      if c = .browse ∧ ns ≠ 0 then s.updStore (fun st => { st with pacing := some ⟨s.now, ns⟩ }) else s
    | _, _ => s

/-- One grant (R136). -/
def State.grantOnce (s : State) (g : Tag) : State :=
  match s.winner, s.pickTag g with
  | some c, some g => (s.weigh c).issueFrom c g
  | _, _ => s

/-! ## The store link (R144 to R147) -/

/-- The link leaves UP: every queued job fails in the order of the queues, the current values become 0 and a pacing
hold ends (R146). The link already stands at its new state. The grades are recomputed after it, so that every gap is entered
under the role that the binding had (R93; DESIGN CHOICE, log entry 35). -/
def State.leaveUp (s : State) : State :=
  let jobs := s.store.jobs
  let s := s.updStore (fun st =>
    { st with live := [], fill := [], browse := [], currentLive := 0, currentFill := 0, currentBrowse := 0,
              pacing := none })
  let s := jobs.foldl (fun s j => s.endTransactions j.kind j.frame) s
  jobs.foldl (fun s j => s.tellFailure j) s

/-- The link becomes UP with the consecutive failure count 0, and the grades are recomputed (R144, R93). -/
def State.enterUp (s : State) (order : List Nat) : State :=
  (s.updStore (fun st => { st with link := .up, failures := 0, nextProbe := none })).recomputeGrades order

/-- A probe in flight no longer decides the link state (R147; DEDUCED, log entry 24). -/
def State.retireProbes (s : State) : State :=
  s.updTags (fun g =>
    match g with
    | .busy tx =>
      match tx.owner with
      | .probe _ => .busy { tx with owner := .probe false }
      | _ => g
    | _ => g)

/-- The link enters TRAINING from any state (R144). Jobs fail before the grades fall (DESIGN CHOICE, log entry 35). -/
def State.enterTraining (s : State) (order : List Nat) : State :=
  let old := s.store.link
  let s := s.updStore (fun st => { st with link := .training, trainingSince := s.now, nextProbe := none })
  let s := s.retireProbes
  match old with
  | .up => s.leaveUp.recomputeGrades order
  | _ => s

/-- The link enters FAILED: it is counted, the first probe time is 100 ms ahead, every queued job fails and the grades
are recomputed, in that order (R145 to R147; DESIGN CHOICE, log entry 35). -/
def State.enterFailed (s : State) (order : List Nat) : State :=
  let s := (s.updStore (fun st =>
    { st with link := .failed, nextProbe := some (msTime s.now + ms 100) })).updCounters
    (fun c => { c with linkFailures := bump c.linkFailures 1 })
  s.leaveUp.recomputeGrades order

/-- One more transaction of a job has failed in a row; at 3 a link that is UP becomes FAILED (R145). -/
def State.countFailure (s : State) (order : List Nat) : State :=
  let n := min 3 (s.store.failures + 1)
  let s := s.updStore (fun st => { st with failures := n })
  if n = 3 ∧ s.store.link = .up then s.enterFailed order else s

/-- A transaction of a job has completed OK (R145). -/
def State.clearFailures (s : State) : State := s.updStore (fun st => { st with failures := 0 })

/-- The node counts a failed transaction (R141). -/
def State.countFailed (s : State) : State :=
  s.updCounters (fun c => { c with failed := bump c.failed 1 })

/-! ## The endings of a transaction (R139 to R142) -/

/-- The job that a transaction belongs to, where it is still taken. -/
def Store.jobOf (st : Store) (kind : JobKind) (frame : Nat) : Option Job :=
  st.jobs.find? (fun j => j.is kind frame)

/-- A job resolves OK: it leaves its queue, its outcome is told, and its user is given back (R134). -/
def State.resolveJob (s : State) (j : Job) : State :=
  let s := s.dropJob j
  match j.kind with
  | .essence =>
    let e := (s.binding j.binding).effEnd
    let s := s.insertExtent j.binding .ownWritten j.start j.stop
    let s := s.yieldCovered j.binding (clipRanges e [(j.start, j.stop)])
    (s.report j.binding ⟨j.start, j.stop, .written⟩).giveBack j.frame
  | .browse => (s.count j.binding .browseFrames).giveBack j.frame

/-- A transaction of a taken job completes OK: the job moves to its record phase after the last of its body, and
resolves after the last of its records (R132). -/
def State.transactionOk (s : State) (j : Job) : State :=
  if 1 < j.left then s.updJob j (fun x => { x with left := x.left - 1 })
  else
    match j.phase with
    | .body =>
      s.updJob j (fun x =>
        { x with phase := .records, todo := List.range (recordTransactions j), left := recordTransactions j,
                 retried := [] })
    | .records => s.resolveJob j

/-- A transaction of a taken job fails, and its job at once with it (R141). -/
def State.transactionFailed (s : State) (j : Job) (order : List Nat) : State :=
  ((s.countFailed).failJob j).countFailure order

/-- A transaction is answered RETRY for the first time: it becomes the first ready one of its job (R140). -/
def State.transactionRetry (s : State) (j : Job) (i : Nat) : State :=
  (s.updJob j (fun x => { x with todo := i :: x.todo, retried := i :: x.retried })).updCounters
    (fun c => { c with retries := bump c.retries 1 })

/-- Whether a transaction of a job that an abort removed is still in flight. -/
def State.removedInFlight (s : State) (kind : JobKind) (frame : Nat) : Bool :=
  allTags.any (fun g =>
    match s.tag g with
    | .busy tx =>
      match tx.owner with
      | .removed k _ f => decide (k = kind ∧ f = frame)
      | _ => false
    | _ => false)

/-- The user of a removed job is given back at the end of its last transaction in flight (R149). -/
def State.endRemoved (s : State) (kind : JobKind) (frame : Nat) : State :=
  if s.removedInFlight kind frame then s else s.giveBack frame

/-- What an ignored outcome counts. A RETRY to a transaction already retried once fails it and is counted (R141), and no
ignored RETRY moves the consecutive failure count (R145; DEDUCED, log entry 18). -/
def State.ignoredOutcome (s : State) (retried : Bool) (status : Status) (order : List Nat) : State :=
  match status with
  | .ok => s.clearFailures
  | .retry => if retried then s.countFailed else s
  | .fault => s.countFailed.countFailure order

/-- The ending of a transaction whose tag has already been freed or retired. -/
def State.endTransaction (s : State) (tx : Transaction) (status : Status) (order : List Nat) : State :=
  match tx.owner with
  | .probe decides =>
    if decides ∧ status = .ok ∧ s.store.link = .failed then s.enterUp order else s
  | .ended _ => s.ignoredOutcome tx.retried status order
  | .removed kind _ frame => (s.endRemoved kind frame).ignoredOutcome tx.retried status order
  | .job kind _ frame i =>
    match s.store.jobOf kind frame with
    | none => s.ignoredOutcome tx.retried status order
    | some j =>
      match status with
      | .ok => s.clearFailures.transactionOk j
      | .retry => if i ∈ j.retried then s.transactionFailed j order else s.transactionRetry j i
      | .fault => s.transactionFailed j order

/-- A completion is matched to its tag, or counted stray (R139). -/
def State.complete (s : State) (g : Tag) (status : Status) (order : List Nat) : State :=
  match s.tag g with
  | .busy tx => (s.setTag g .free).endTransaction tx status order
  | _ => s.updCounters (fun c => { c with stray := bump c.stray 1 })

/-- The timeout of a busy tag passes: it is counted, the tag is retired for one store timeout, and the transaction
fails; a probe that times out decides nothing and is no failed transaction (R142, R147; DEDUCED, log entry 19). -/
def State.timeOut (s : State) (g : Tag) (order : List Nat) : State :=
  match s.tag g with
  | .busy tx =>
    if reached s.now tx.deadline then
      let s := (s.setTag g (.retired (s.now + ms s.opts.storeTimeout))).updCounters
        (fun c => { c with timeouts := bump c.timeouts 1 })
      match tx.owner with
      | .probe _ => s
      | _ => s.endTransaction tx .fault order
    else s
  | _ => s

/-- Whether any transaction is in flight. -/
def State.inFlight (s : State) : Bool :=
  allTags.any (fun g =>
    match s.tag g with
    | .busy _ => true
    | _ => false)

/-- The binding of a transaction; a probe belongs to none (R147). -/
def TxOwner.binding? : TxOwner → Option BindingNo
  | .job _ b _ _ => some b
  | .ended b => some b
  | .removed _ b _ => some b
  | .probe _ => none

/-- Whether a transaction of a binding is in flight (R19). -/
def State.inFlightOf (s : State) (b : BindingNo) : Bool :=
  allTags.any (fun g =>
    match s.tag g with
    | .busy tx => decide (tx.owner.binding? = some b)
    | _ => false)

/-- Whether a probe is in flight (R147). -/
def State.probeInFlight (s : State) : Bool :=
  allTags.any (fun g =>
    match s.tag g with
    | .busy tx => decide (tx.owner.binding? = none)
    | _ => false)

/-- A probe time of a FAILED link (R147). -/
def State.probe (s : State) (g : Tag) : State :=
  match s.store.nextProbe with
  | none => s
  | some time =>
    if s.store.link = .failed ∧ reached s.now time then
      let s := s.updStore (fun st => { st with nextProbe := some (time + ms 100) })
      if s.node = .running then
        match s.activeBindings.head? with
        | none => s.enterTraining []
        | some b =>
          if s.probeInFlight then s
          else
            match s.pickTag g with
            | none => s
            | some g => s.issue g (.probe true) false (s.binding b).terms.essenceBase []
      else s
    else s

/-- Whether the pacing hold can have passed: the counter's microseconds stand for the nanoseconds within one (R137;
DEDUCED, log entry 22). -/
def State.holdPassed (s : State) (h : PacingHold) : Bool := decide (h.ns < (s.elapsed h.since + 1) * 1000)

end Sys2Proof.Machine
end

