-- ==== Sys2Proof/Machine/Assembly.lean ====
section
/-! DEFINITION. Frame Accounting and the fate of completed frames (chapters 5 and 6), and the open-frame window of a
binding: closures, openings, the placing of pieces and the forced advance (chapter 3). -/

namespace Sys2Proof.Machine

/-! ## Frame Accounting (chapter 5) -/

/-- A closure enters the history and the grade is recomputed (R82, R89, R93). -/
def State.takeClosure (s : State) (b : BindingNo) (o : Closure) : State :=
  (s.updAcct b (fun a =>
    let h := a.history ++ [o]
    { a with history := h.drop (h.length - Config.historyOutcomes) })).recomputeGrade b

/-- The colour of a frame of byte total `total` against the buckets, and the buckets after it (R85, R86). -/
def colourOf (rate committed excess total : Nat) : Colour × Nat × Nat :=
  if rate = 0 then (.green, committed, excess)
  else if total ≤ committed then (.green, committed - total, excess)
  else if total ≤ excess then (.yellow, committed, excess - total)
  else (.red, committed, excess)

/-- One millisecond's credit of a bucket pair: what the committed bucket cannot hold goes to the excess bucket (R84). -/
def creditOf (rate cbs ebs committed excess : Nat) : Nat × Nat :=
  (min cbs (committed + rate), min ebs (excess + (committed + rate - cbs)))

/-- A completed frame is coloured and the colour counted (R85). -/
def State.colourFrame (s : State) (b : BindingNo) (f : FrameRecord) : State :=
  let r := s.binding b
  let c := colourOf r.terms.rate r.acct.committed r.acct.excess f.byteTotal
  let s := (s.updAcct b (fun a => { a with committed := c.2.1, excess := c.2.2 })).updFrame f.index
    (fun x => { x with colour := some c.1 })
  match c.1 with
  | .green => s
  | .yellow => s.count b .yellow
  | .red => s.count b .red

/-! ## The fate of a completed frame (R109 to R112) -/

/-- A RED frame becomes an own gap and its record is released (R110). -/
def State.redFrame (s : State) (b : BindingNo) (f : FrameRecord) : State :=
  (s.ownGap b f.spanStart (min f.spanEnd (s.binding b).effEnd)).releaseFrame f.index

/-- Put a held frame into its list in increasing order of stored position (R97). -/
def insertHeld (h : Held) : List Held → List Held
  | [] => [h]
  | x :: xs => if h.position < x.position then h :: x :: xs else x :: insertHeld h xs

/-- Whether a frame to be held is filled at once (R112). -/
def Coordination.fillsAtOnce (c : Coordination) (position : Nat) : Bool :=
  decide (kindAt c.map position = some .primaryGap) ||
    (match c.primaryThrough with
    | none => false
    | some th => decide (position < th))

/-- A frame joins the held-frame list, is filled at once where R112 says so, and the pressure test is made. -/
def State.holdFrame (s : State) (b : BindingNo) (f : FrameRecord) : State :=
  let r := s.binding b
  let h : Held :=
    { frame := f.index, position := f.spanStart, stop := min f.spanEnd r.effEnd,
      deadline := s.house.counter + BitVec.ofNat 32 s.opts.window }
  let s := (s.updFrame f.index (fun x => { x with state := .held })).updCoord b
    (fun c => { c with held := insertHeld h c.held })
  let s := if r.coord.fillsAtOnce f.spanStart then s.fillHeld b h else s
  s.pressureTest b

/-- The Coordination Unit decides the fate of a completed frame by the first test that holds (R109). -/
def State.decideFate (s : State) (b : BindingNo) (index : Nat) : State :=
  match s.frame? index with
  | none => s
  | some f =>
    let r := s.binding b
    if coveredIn r.coord.map f.spanStart (min f.spanEnd r.effEnd) then s.yieldFrame b index
    else if f.colour = some .red then s.redFrame b f
    else if r.coord.role = .primary then s.writeLive b index
    else s.holdFrame b f

/-- A frame that completes passes through Frame Accounting to the Coordination Unit (R82). -/
def State.accountComplete (s : State) (b : BindingNo) (f : FrameRecord) : State :=
  let s := s.colourFrame b f
  let s := s.updAcct b (fun a => { a with lastQuality := f.quality })
  let s := s.takeClosure b .complete
  let s := s.updFrame f.index (fun x => { x with peaks := storedPeaks (s.binding b).terms.audio x.maxima })
  s.decideFate b f.index

/-! ## The window (R44 to R46) -/

/-- The patience of a binding (R61). -/
def Binding.patienceNow (r : Binding) : Nat :=
  match r.terms.patience with
  | some p => p
  | none => clampTo 2000 1000000 (3 * r.asm.period)

/-- The measured feed period at binding start (R60). -/
def initialPeriod (t : Terms) : Nat := clampTo 1000 200000 (1000000 * t.fd / t.fn)

/-- Set one slot of a binding's window. -/
def State.setSlot (s : State) (b : BindingNo) (i : Nat) (v : Slot) : State :=
  s.updAsm b (fun a => { a with slots := a.slots.set i v })

/-- The slot with an index of the window; beyond it there is none. -/
def State.slot? (s : State) (b : BindingNo) (i : Nat) : Option Slot := (s.binding b).asm.slots[i]?

/-- The number of CLOSED slots at the base of a window. -/
def closedPrefix : List Slot → Nat
  | .closed _ :: rest => closedPrefix rest + 1
  | _ => 0

/-- A window moved up by `k` frame counts: FREE slots without deadlines enter at the top (R46, R57). -/
def shiftSlots (k : Nat) (slots : List Slot) : List Slot :=
  slots.drop k ++ List.replicate (min k Config.windowSlots) (.free none)

/-- In RECORDING, the base advances while the slot at the base is CLOSED (R46). -/
def State.advanceBase (s : State) (b : BindingNo) : State :=
  if (s.binding b).state = .recording then
    s.updAsm b (fun a =>
      let k := closedPrefix a.slots
      { a with base := a.base.map (fun n => n + BitVec.ofNat 32 k), slots := shiftSlots k a.slots })
  else s

/-- What a slot closes as, where it is not CLOSED already (R55, R57). -/
def Slot.outcome : Slot → Option Closure
  | .free _ => some .unseen
  | .filling _ _ => some .incomplete
  | .skipped r _ => some (.skipped r)
  | .closed _ => none

/-- The outcomes that are gaps (R56). -/
def Closure.isGap : Closure → Bool
  | .complete => false
  | .incomplete => true
  | .unseen => true
  | .skipped .drop => false
  | .skipped .covered => false
  | .skipped .beyond => false
  | .skipped .oversize => true
  | .skipped .room => true

/-- The counter that a closure raises (R54, R55). -/
def State.countClosure (s : State) (b : BindingNo) : Closure → State
  | .incomplete => s.count b .incomplete
  | .unseen => s.count b .unseen
  | .complete => s.count b .complete
  | .skipped _ => s

/-- The slot with index `i` closes with an outcome: a FILLING slot's record is freed (R67) and the closure counted. -/
def State.closeSlot (s : State) (b : BindingNo) (i : Nat) (o : Closure) : State :=
  let freed :=
    match s.slot? b i with
    | some (.filling index _) => s.freeFrame index
    | _ => s
  (freed.setSlot b i (.closed o)).countClosure b o

/-- Ranges of deltas that follow on one another joined into one (R56, R80). -/
def joinRanges : List (Nat × Nat) → List (Nat × Nat)
  | [] => []
  | r :: rs =>
    match joinRanges rs with
    | [] => [r]
    | q :: qs => if r.2 = q.1 then (r.1, q.2) :: qs else r :: q :: qs

/-- The gap runs of one event are handed to the Coordination Unit, one for each unbroken range of deltas (R56). -/
def State.handGaps (s : State) (b : BindingNo) (ranges : List (Nat × Nat)) : State :=
  (joinRanges ranges).foldl (fun s r =>
    let run := ownedRun (s.binding b).terms (s.binding b).effEnd r.1 r.2
    s.ownGap b run.1 run.2) s

/-- The delta of a binding's window base; 0 where it has none. -/
def Binding.baseDelta (r : Binding) : Nat :=
  match r.asm.base with
  | none => 0
  | some n => delta r.terms.anchor n

/-- The closures of one event, in order of frame count: each slot of the list closes with its outcome, the outcomes go
to Frame Accounting, and the gaps of the event, with further ranges of counts that never had a slot, are handed to the
Coordination Unit (R55 to R57; DESIGN CHOICE, log entry 9). -/
def State.closeSlots (s : State) (b : BindingNo) (closures : List (Nat × Closure)) (extra : List (Nat × Nat)) : State :=
  let dB := (s.binding b).baseDelta
  let gaps := (closures.filter (fun c => c.2.isGap)).map (fun c => (dB + c.1, dB + c.1 + 1))
  let s := closures.foldl (fun s c => s.closeSlot b c.1 c.2) s
  let passed := (extra.map (fun r => r.2 - r.1)).sum
  let s := s.count b .unseen passed
  let s := closures.foldl (fun s c => s.takeClosure b c.2) s
  let s := (List.replicate (min Config.historyOutcomes passed) Closure.unseen).foldl (fun s o => s.takeClosure b o) s
  s.handGaps b (gaps ++ extra)

/-- The closures of the slots whose index and state pass a test, with the outcomes that the test gives. -/
def closuresOf (test : Nat → Slot → Option Closure) : Nat → List Slot → List (Nat × Closure)
  | _, [] => []
  | i, x :: xs =>
    match test i x with
    | none => closuresOf test (i + 1) xs
    | some o => (i, o) :: closuresOf test (i + 1) xs

/-- FREE slots close UNSEEN, other slots are left as they are (R17). -/
def freeUnseen (_ : Nat) : Slot → Option Closure
  | .free _ => some .unseen
  | _ => none

/-! ## Entry to FINISHING (R16, R17) -/

/-- A binding enters FINISHING: every FREE slot of a window that has a base closes UNSEEN (R17). -/
def State.enterFinishing (s : State) (b : BindingNo) (reason : FinishReason) : State :=
  let s := s.updBinding b (fun r => { r with state := .finishing, reason := some reason })
  if (s.binding b).asm.base.isSome then s.closeSlots b (closuresOf freeUnseen 0 (s.binding b).asm.slots) []
  else s

/-- A frame that opens at or above E ends the recording (R16). -/
def State.beyondEnd (s : State) (b : BindingNo) : State :=
  let r := s.binding b
  s.enterFinishing b (if r.stopPos < r.terms.clipLength then .stopped else .clipFull)

/-! ## Pieces of an open frame (R50, R51, R54, R66) -/

/-- A frame record for a frame that opens with a piece, before the piece is placed (R50). -/
def newFrame (index : Nat) (b : BindingNo) (t : Terms) (p : Piece) : FrameRecord :=
  let d := delta t.anchor p.count
  { index := index, binding := b, count := p.count, spanStart := startOf t d, spanEnd := startOf t (d + 1),
    pieces := p.pieces.toNat, base := p.base.toNat, audio := p.audio.toNat, quality := none, cells := [],
    byteTotal := 0, maxima := Vector.replicate 4 0, peaks := Vector.replicate 4 0, state := .assembling, users := 0,
    colour := none }

/-- Put a cell into a cell list in increasing order of piece index. -/
def insertCell (i : Nat) (payload : List Byte) : List (Nat × List Byte) → List (Nat × List Byte)
  | [] => [(i, payload)]
  | x :: xs => if i < x.1 then (i, payload) :: x :: xs else x :: insertCell i payload xs

/-- A record with a piece placed in a cell (R51). -/
def FrameRecord.placed (f : FrameRecord) (channels : Nat) (p : Piece) : FrameRecord :=
  { f with
    cells := insertCell p.index.toNat p.payload f.cells
    byteTotal := f.byteTotal + p.payload.length
    quality := if p.index = 0 then some p.quality else f.quality
    maxima := if isAudio p.index.toNat f.pieces f.audio then readAudio channels p.payload f.maxima else f.maxima }

/-- The slot with index `i`, whose frame is complete, closes COMPLETE and the frame goes on (R54). -/
def State.completeFrame (s : State) (b : BindingNo) (i index : Nat) : State :=
  let s := (s.setSlot b i (.closed .complete)).count b .complete
  let s :=
    match s.frame? index with
    | none => s
    | some f => s.accountComplete b f
  s.advanceBase b

/-- A frame is abandoned for want of a cell: its slot becomes SKIPPED(ROOM) and keeps its deadline (R66). -/
def State.abandonFrame (s : State) (b : BindingNo) (i index : Nat) (deadline : Time) : State :=
  ((s.freeFrame index).setSlot b i (.skipped .room deadline)).count b .roomSkips

/-- A piece is placed in a cell of its frame; the piece that fills the set completes the frame, and a pressure test
follows (R51, R54, R116). -/
def State.placeCell (s : State) (b : BindingNo) (i : Nat) (f : FrameRecord) (p : Piece) : State :=
  let placed := f.placed (s.binding b).terms.audio p
  let s := ({ s with freeCells := s.freeCells - 1 }.updFrame f.index (fun _ => placed)).count b .pieces
  let s := if placed.cells.length = placed.pieces then s.completeFrame b i f.index else s
  s.pressureTest b

/-- A piece whose slot is FILLING (R51). -/
def State.fillingPiece (s : State) (b : BindingNo) (i index : Nat) (deadline : Time) (p : Piece) : State :=
  match s.frame? index with
  | none => s
  | some f =>
    if f.pieces ≠ p.pieces.toNat ∨ f.base ≠ p.base.toNat ∨ f.audio ≠ p.audio.toNat then s.count b .inconsistent
    else if f.cells.any (fun c => c.1 = p.index.toNat) then s.count b .duplicates
    else if s.freeCells = 0 then s.abandonFrame b i index deadline
    else s.placeCell b i f p

/-! ## Opening a frame (R47 to R49, R59) -/

/-- The opening record and the measured feed period after a frame opens (R59, R60). -/
def noteOpening (t : Terms) (count : FrameCount) (now : Time) (a : Assembly) : Assembly :=
  match a.opening with
  | none => { a with opening := some (count, now) }
  | some (last, time) =>
    let d := delta t.anchor count
    let d' := delta t.anchor last
    { a with
      period := if d = d' + 1 then approach a.period (clampTo 1000 200000 (now - time).toNat) 8 else a.period
      opening := if d' < d then some (count, now) else a.opening }

/-- The FREE slots below an index that have no deadline receive one (R49). -/
def overtake (deadline : Time) : Nat → List Slot → List Slot
  | 0, slots => slots
  | _ + 1, [] => []
  | n + 1, .free none :: rest => .free (some deadline) :: overtake deadline n rest
  | n + 1, x :: rest => x :: overtake deadline n rest

/-- What a FREE slot becomes at its frame's first piece (R47). -/
inductive Opening where
  | skip (reason : SkipReason)
  | fill
deriving DecidableEq, Repr

/-- The tests of R47, in its order. -/
def State.openingOf (s : State) (b : BindingNo) (p : Piece) : Opening :=
  let r := s.binding b
  let d := delta r.terms.anchor p.count
  match classOf r.terms r.effEnd d with
  | .drop => .skip .drop
  | .beyond => .skip .beyond
  | .store =>
    if coveredIn r.coord.map (startOf r.terms d) (min (startOf r.terms (d + 1)) r.effEnd) then .skip .covered
    else if r.terms.slotCells < p.pieces.toNat then .skip .oversize
    else if s.quota ≤ s.holding b ∨ Config.frameRecords ≤ s.frames.length ∨ s.freeCells = 0 then .skip .room
    else .fill

/-- The counter that a skipped opening raises (R47). -/
def State.countSkip (s : State) (b : BindingNo) : SkipReason → State
  | .drop => s.count b .drops
  | .covered => s
  | .beyond => s
  | .oversize => s.count b .oversize
  | .room => s.count b .roomSkips

/-- The first piece of a frame meets its FREE slot with index `i`: the frame opens (R47). -/
def State.openFrame (s : State) (b : BindingNo) (i : Nat) (own : Option Time) (p : Piece) : State :=
  let opening := s.openingOf b p
  let s := s.updAsm b (noteOpening (s.binding b).terms p.count s.now)
  let fresh := s.now + BitVec.ofNat 48 (s.binding b).patienceNow
  let deadline := own.getD fresh
  let s := s.updAsm b (fun a => { a with slots := overtake fresh i a.slots })
  match opening with
  | .skip reason =>
    let s := (s.setSlot b i (.skipped reason deadline)).countSkip b reason
    if reason = .beyond then s.beyondEnd b else s
  | .fill =>
    let index := freeIndex 0 s.frames
    let f := newFrame index b (s.binding b).terms p
    let s := { s with frames := insertFrame f s.frames }.setSlot b i (.filling index deadline)
    s.fillingPiece b i index deadline p

/-! ## The forced advance (R57) -/

/-- What the slots that a forced advance by `k` counts passes close as. -/
def passedOutcome (k i : Nat) (x : Slot) : Option Closure := if i < k then x.outcome else none

/-- The window is forced forward by `k` frame counts (R57). The slots close and their closures and gaps are handed on
before the base moves, so that each closure still has its index. -/
def State.forceAdvance (s : State) (b : BindingNo) (k : Nat) : State :=
  let dB := (s.binding b).baseDelta
  let closures := closuresOf (passedOutcome k) 0 (s.binding b).asm.slots
  let extra := if Config.windowSlots < k then [(dB + Config.windowSlots, dB + k)] else []
  let s := s.closeSlots b closures extra
  s.updAsm b (fun a =>
    { a with base := a.base.map (fun n => n + BitVec.ofNat 32 k), slots := shiftSlots k a.slots })

/-! ## The pieces routed to a binding (R12, R17, R44, R45, R91) -/

/-- A piece that meets its slot in RECORDING (R45). -/
def State.pieceInSlot (s : State) (b : BindingNo) (i : Nat) (p : Piece) : State :=
  match s.slot? b i with
  | none => s
  | some (.free own) => s.openFrame b i own p
  | some (.filling index deadline) => s.fillingPiece b i index deadline p
  | some (.skipped _ _) => s
  | some (.closed _) => s.count b .late

/-- A piece in RECORDING (R45). After a forced advance the base goes on past slots already CLOSED (R46;
DEDUCED, log entry 12). The advance is one event of R56 and what the piece then does in its slot is another (DESIGN CHOICE, log
entry 34). -/
def State.recordingPiece (s : State) (b : BindingNo) (p : Piece) : State :=
  let r := s.binding b
  let d := delta r.terms.anchor p.count
  let dB := r.baseDelta
  if earlyDelta ≤ d then s.count b .early
  else if d < dB then s.count b .late
  else if d < dB + Config.windowSlots then s.pieceInSlot b (d - dB) p
  else
    let s := (s.forceAdvance b (d - dB - 7)).advanceBase b
    s.pieceInSlot b (d - (s.binding b).baseDelta) p

/-- A piece in FINISHING: only a FILLING or SKIPPED slot still takes it (R17). -/
def State.finishingPiece (s : State) (b : BindingNo) (p : Piece) : State :=
  let r := s.binding b
  let i := delta r.terms.anchor p.count - r.baseDelta
  if r.asm.base.isSome ∧ r.baseDelta ≤ delta r.terms.anchor p.count then
    match s.slot? b i with
    | some (.filling index deadline) => s.fillingPiece b i index deadline p
    | some (.skipped _ _) => s
    | _ => s.count b .afterEnd
  else s.count b .afterEnd

/-- A piece in ARMED: an early piece is counted; any other sets the window base to the anchor and starts the recording
(R12). -/
def State.armedPiece (s : State) (b : BindingNo) (p : Piece) : State :=
  let r := s.binding b
  if earlyDelta ≤ delta r.terms.anchor p.count then s.count b .early
  else
    (s.updBinding b (fun r =>
      { r with state := .recording, asm := { r.asm with base := some r.terms.anchor } })).recordingPiece b p

/-- The last arrival of a binding is set, and a silent binding ceases to be silent (R44, R91). -/
def State.noteArrival (s : State) (b : BindingNo) : State :=
  let wasSilent := (s.binding b).acct.silent
  let s := s.updAsm b (fun a => { a with lastArrival := some s.now })
  if wasSilent then (s.updAcct b (fun a => { a with silent := false })).recomputeGrade b else s

/-- A piece routed to a binding is handled as the binding's state directs (R3). -/
def State.routePiece (s : State) (b : BindingNo) (p : Piece) : State :=
  match (s.binding b).state with
  | .idle => s
  | .draining => s
  | .armed => (s.noteArrival b).armedPiece b p
  | .recording => (s.noteArrival b).recordingPiece b p
  | .finishing => (s.noteArrival b).finishingPiece b p

/-! ## Slot deadlines (R55) -/

/-- The deadline of a slot, where it has one (R44). -/
def Slot.deadline? : Slot → Option Time
  | .free d => d
  | .filling _ d => some d
  | .skipped _ d => some d
  | .closed _ => none

/-- The deadline of the slot of a frame count is reached and the slot closes as its state directs (R55). -/
def State.slotDeadline (s : State) (b : BindingNo) (count : FrameCount) : State :=
  let r := s.binding b
  if r.state = .recording ∨ r.state = .finishing then
    match r.asm.base with
    | none => s
    | some base =>
      let i := (count - base).toNat
      match s.slot? b i with
      | none => s
      | some slot =>
        match slot.deadline?, slot.outcome with
        | some d, some o => if reached s.now d then (s.closeSlots b [(i, o)] []).advanceBase b else s
        | _, _ => s
  else s

end Sys2Proof.Machine
end

