-- ==== Sys2Proof/Machine/Bindings.lean ====
section
/-! DEFINITION. The Binding Manager (chapter 1): the take of a request, stops, aborts and drains, quietness, the DONE
and the binding form of STATS. -/

namespace Sys2Proof.Machine

/-! ## Aborts, drains and the return to IDLE (R18 to R20, R149) -/

/-- Whether any transaction of a taken job is in flight. -/
def State.jobInFlight (s : State) (j : Job) : Bool :=
  allTags.any (fun g =>
    match s.tag g with
    | .busy tx =>
      match tx.owner with
      | .job k _ f _ => decide (k = j.kind ∧ f = j.frame)
      | _ => false
    | _ => false)

/-- The transactions in flight of a job that an abort removes keep the job's user until the last of them ends (R149). -/
def State.removeTransactions (s : State) (j : Job) : State :=
  s.updTags (fun g =>
    match g with
    | .busy tx =>
      match tx.owner with
      | .job k b f _ => if k = j.kind ∧ f = j.frame then .busy { tx with owner := .removed k b f } else g
      | _ => g
    | _ => g)

/-- The jobs of a binding leave the class queues (R18, R149). -/
def State.dropJobsOf (s : State) (b : BindingNo) : State :=
  s.updStore (fun st => [JobClass.live, .fill, .browse].foldl
    (fun st c => st.setQueue c ((st.queue c).filter (fun j => j.binding ≠ b))) st)

/-- A user of a record is given back, where the record is the binding's own (R149). -/
def State.giveBackOwn (s : State) (b : BindingNo) (index : Nat) : State :=
  match s.frame? index with
  | none => s
  | some f => if f.binding = b then s.giveBack index else s

/-- What becomes of a job that an abort has removed from its queue (R149). -/
def State.removeJob (s : State) (j : Job) : State :=
  if s.jobInFlight j then s.removeTransactions j else s.giveBackOwn j.binding j.frame

/-- Every record of a binding becomes RELEASED; those without users are freed (R64). -/
def State.releaseAll (s : State) (b : BindingNo) : State :=
  ((s.frames.filter (fun f => f.binding = b)).map (fun f => f.index)).foldl (fun s i => s.releaseFrame i) s

/-- The coordination state on entry to DRAINING (R18, R97). -/
def Coordination.drained (c : Coordination) : Coordination :=
  { c with takers := [], map := [], held := [], report := [] }

/-- An entry without its bound field, where that is the binding (R20). -/
def SourceEntry.unbind (e : SourceEntry) (b : BindingNo) : SourceEntry :=
  if e.bound = some b then { e with bound := none } else e

/-- A binding becomes IDLE: its source entry is unbound and its terms and all that other blocks hold for it are
discarded, while it keeps its clip number, finish reason and counters (R20). -/
def State.becomeIdle (s : State) (b : BindingNo) : State :=
  { s with sources := s.sources.map (fun (e : SourceEntry) => e.unbind b) }.updBinding b
    (fun r => { clip := r.clip, reason := r.reason, counters := r.counters })

/-- The drain of a binding has ended: its DONE becomes pending, or, with its DONE suppressed, it becomes IDLE with nothing
queued (R2, R19, R20, R192; DEDUCED, log entry 8). -/
def State.drained (s : State) (b : BindingNo) : State :=
  match (s.binding b).donePending with
  | .no => s.updBinding b (fun r => { r with donePending := .yes })
  | .yes => s
  | .suppressed => s.becomeIdle b

/-- A binding that is not IDLE is aborted, with DONE pending no or suppressed (R18, R2). One with nothing in flight is
drained at that moment (R19, R149). R58 leaves open what DRAINING makes of the window until IDLE discards it: the base is
absent and every slot FREE, the CLOSED ones too (DESIGN CHOICE, log entry 40). -/
def State.abortBinding (s : State) (b : BindingNo) (pending : DonePending) : State :=
  let s := s.updBinding b (fun r =>
    { r with state := .draining, reason := some .aborted, donePending := pending, coord := r.coord.drained,
             asm := { r.asm with base := none, slots := List.replicate Config.windowSlots (.free none) } })
  let s := (s.store.jobs.filter (fun j => j.binding = b)).foldl (fun s j => s.removeJob j) (s.dropJobsOf b)
  let s := (s.binding b).undecided.foldl (fun s i => s.giveBackOwn b i) s
  let s := s.updBinding b (fun r => { r with undecided := [] })
  let s := (s.releaseAll b).recomputeGrade b
  if s.inFlightOf b then s else s.drained b

/-- Every binding that is not IDLE is aborted with DONE pending suppressed (R2). -/
def State.abortAll (s : State) : State :=
  s.busyBindings.foldl (fun s b => s.abortBinding b .suppressed) s

/-- An entry bound to a binding, where its key is the source and stream (R10). -/
def SourceEntry.bindTo (e : SourceEntry) (b : BindingNo) (source : SourceId) (stream : BitVec 8) : SourceEntry :=
  if e.source = source ∧ e.stream = stream then { e with bound := some b } else e

/-- Whether a slot is FILLING or SKIPPED. -/
def Slot.isOpen : Slot → Bool
  | .free _ => false
  | .filling _ _ => true
  | .skipped _ _ => true
  | .closed _ => false

/-- The five conditions of quietness (R17). -/
def State.quiet (s : State) (b : BindingNo) : Bool :=
  let r := s.binding b
  !(r.asm.slots.any Slot.isOpen) && r.coord.held.isEmpty &&
    !(s.store.jobs.any (fun j => j.binding = b)) && !(s.inFlightOf b) && r.coord.report.isEmpty && r.undecided.isEmpty

/-- The end of a drain (R19). -/
def State.endDrain (s : State) (b : BindingNo) : State :=
  if (s.binding b).state = .draining ∧ s.inFlightOf b = false then s.drained b else s

/-- A FINISHING binding is quiet (R17). -/
def State.becomeQuiet (s : State) (b : BindingNo) : State :=
  if (s.binding b).state = .finishing ∧ (s.binding b).donePending = .no ∧ s.quiet b then
    s.updBinding b (fun r => { r with donePending := .yes })
  else s

/-- The lowest-numbered binding whose DONE waits (R20). -/
def State.firstWaiting (s : State) : Option BindingNo :=
  allBindings.find? (fun b => (s.binding b).donePending = .yes)

/-- The DONE of a binding (R20). -/
def Binding.doneNotice (r : Binding) : Notice := .done (r.clip.getD 0) r.reason r.effEnd

/-- A pending DONE is queued, or suppressed, and the binding becomes IDLE (R20; DEDUCED, log entry 8). -/
def State.queueDone (s : State) (b : BindingNo) : State :=
  let r := s.binding b
  match r.donePending with
  | .no => s
  | .yes => if s.canAcceptDone ∧ s.firstWaiting = some b then (s.offer r.doneNotice).becomeIdle b else s
  | .suppressed => if r.state = .draining ∧ s.inFlightOf b = false then s.becomeIdle b else s

/-! ## Taking or declining a RECORD (R4 to R10) -/

/-- A binding in ARMED or RECORDING that holds the same clip and an equal request (R5). -/
def State.repeatOf (s : State) (req : Request) : Option BindingNo :=
  allBindings.find? (fun b =>
    let r := s.binding b
    (r.state = .armed ∨ r.state = .recording) ∧ r.clip = some req.clip ∧ r.request = some req)

/-- The entry of a source and stream. -/
def State.entry? (s : State) (source : SourceId) (stream : BitVec 8) : Option SourceEntry :=
  s.sources.find? (fun e => e.source = source ∧ e.stream = stream)

/-- The node hears a source: an entry whose ports-heard set is not empty (R6). -/
def State.hears (s : State) (source : SourceId) (stream : BitVec 8) : Bool :=
  match s.entry? source stream with
  | none => false
  | some e => decide (e.ports ≠ 0)

/-- Whether the entry of a source is bound (R9). -/
def State.sourceBound (s : State) (source : SourceId) (stream : BitVec 8) : Bool :=
  match s.entry? source stream with
  | none => false
  | some e => e.bound.isSome

/-- The lowest-numbered IDLE binding record (R10). -/
def State.firstIdle (s : State) : Option BindingNo :=
  allBindings.find? (fun b => (s.binding b).state = .idle)

/-- The state checks of R9, in its order. -/
def State.stateCheck (s : State) (req : Request) : Option DeclineReason :=
  if s.busyBindings.any (fun b => (s.binding b).clip = some req.clip) then some .clipBusy
  else if s.sourceBound req.source req.stream then some .sourceBusy
  else if s.firstIdle = none then some .noBinding
  else if s.store.link ≠ .up then some .storeDown
  else none

/-- A binding record at its start (R2, R10, R97). -/
def startBinding (s : State) (req : Request) (t : Terms) : Binding :=
  let ahead := msTime s.now + ms s.opts.presence
  { state := .armed, clip := some req.clip, request := some req, terms := t, stopPos := Config.noStop,
    effEnd := t.clipLength,
    asm := { period := initialPeriod t, takenAt := s.now }
    acct := { committed := t.cbs, excess := t.ebs }
    coord :=
      { settle := some ahead, nextTake := ahead,
        nextExtent := s.house.counter + BitVec.ofNat 32 s.opts.extentPeriod } }

/-- An IDLE record that kept a clip number loses it (R10, step 2). -/
def State.forgetClip (s : State) (clip : Clip) : State :=
  allBindings.foldl (fun s b =>
    if (s.binding b).state = .idle ∧ (s.binding b).clip = some clip then
      s.updBinding b (fun r => { r with clip := none })
    else s) s

/-- A request is taken into a binding record (R10), and the pressure tests that a take calls for are made (R116). -/
def State.takeRequest (s : State) (b : BindingNo) (req : Request) (t : Terms) (order : List Nat) : State :=
  let s := (s.forgetClip req.clip).updBinding b (fun _ => startBinding s req t)
  let s := { s with sources := s.sources.map (fun (e : SourceEntry) => e.bindTo b req.source req.stream) }
  let s := s.updAcct b (fun a => { a with grade := s.gradeOf b })
  let s := s.offerTake b
  (arrange order s.activeBindings).foldl (fun s b => s.pressureTest b) s

/-- A RECORD in RUNNING goes through the decisions of R4 in their order. -/
def State.considerRecord (s : State) (req : Request) (order : List Nat) : State :=
  match s.repeatOf req with
  | some b => s.offerTake b
  | none =>
    if s.hears req.source req.stream then
      let t := clampRequest req
      match failedCheck req.clip t with
      | some code => s.offer (.decline req.clip .badParams code)
      | none =>
        match s.stateCheck req, s.firstIdle with
        | some reason, _ => s.offer (.decline req.clip reason 0)
        | none, some b => s.takeRequest b req t order
        | none, none => s
    else s

/-! ## Stops (R13 to R15) -/

/-- The start position of the frame of a window slot; slots at and above 2^31 start where R72 puts 2^31. -/
def Binding.slotStart (r : Binding) (i : Nat) : Nat :=
  startOf r.terms (min (r.baseDelta + i) earlyDelta)

/-- FILLING and SKIPPED slots at or above E close SKIPPED(BEYOND) (R14). -/
def beyondAt (r : Binding) (effEnd i : Nat) : Slot → Option Closure
  | .free _ => none
  | .filling _ _ => if effEnd ≤ r.slotStart i then some (.skipped .beyond) else none
  | .skipped _ _ => if effEnd ≤ r.slotStart i then some (.skipped .beyond) else none
  | .closed _ => none

/-- Every slot that is not CLOSED closes at an immediate stop (R15). -/
def stopOutcome (_ : Nat) : Slot → Option Closure
  | .free _ => some .unseen
  | .filling _ _ => some (.skipped .beyond)
  | .skipped _ _ => some (.skipped .beyond)
  | .closed _ => none

/-- The stop position is lowered to `p`, and E and the own through follow it (R13, R121). Extents at or above the lowered
E stay in the map whole and still count toward the 64 of R108 (DESIGN CHOICE, log entry 42). -/
def State.lowerStop (s : State) (b : BindingNo) (p : Nat) : State :=
  s.updBinding b (fun r =>
    let stop := min r.stopPos p
    let e := min r.terms.clipLength stop
    { r with stopPos := stop, effEnd := e, coord := { r.coord with ownThrough := min r.coord.ownThrough e } })

/-- Held frames at or above E are released without a write (R14). -/
def State.releaseAbove (s : State) (b : BindingNo) (effEnd : Nat) : State :=
  let gone := (s.binding b).coord.held.filter (fun h => effEnd ≤ h.position)
  let s := s.updCoord b (fun c => { c with held := c.held.filter (fun h => h.position < effEnd) })
  gone.foldl (fun s h => s.releaseFrame h.frame) s

/-- The closures of R14 at the effective end a binding has now. -/
def State.stopClosures (s : State) (b : BindingNo) : List (Nat × Closure) :=
  let r := s.binding b
  if r.asm.base.isSome then closuresOf (beyondAt r r.effEnd) 0 r.asm.slots else []

/-- The work of a binding above a lowered E is ended (R14). The held frames are released before the closures are handed
on, so that none of them is written above E (DESIGN CHOICE, log entry 14). -/
def State.endAbove (s : State) (b : BindingNo) : State :=
  (s.releaseAbove b (s.binding b).effEnd).closeSlots b (s.stopClosures b) []

/-- A STOP with a position other than FFFFFFh (R13; DEDUCED, log entry 13). -/
def State.stopAt (s : State) (b : BindingNo) (p : Nat) : State :=
  let old := s.binding b
  if old.stopPos < p then s
  else
    let s := s.lowerStop b p
    let lowered := decide ((s.binding b).effEnd < old.effEnd)
    match old.state with
    | .armed => if (s.binding b).effEnd = 0 then s.enterFinishing b .stopped else s
    | .recording =>
      let closed := lowered && !(s.stopClosures b).isEmpty
      let s := if lowered then s.endAbove b else s
      if closed ∨ (s.binding b).effEnd ≤ (s.binding b).slotStart 0 then s.enterFinishing b .stopped else s
    | .finishing => if lowered then s.endAbove b else s
    | .idle => s
    | .draining => s

/-- An immediate stop (R15). R15 leaves completed frames alone because it takes them to lie below the new E; frames that
completed above an open base slot do not, and are released when held, as R14 and the table of R112 say (DESIGN CHOICE, log
entry 32). They go before the closures, as in R14's other stop (log entry 14). -/
def State.stopNow (s : State) (b : BindingNo) : State :=
  let old := s.binding b
  match old.state with
  | .armed => (s.lowerStop b 0).enterFinishing b .stopped
  | .idle => s
  | .draining => s
  | _ =>
    if old.asm.base.isSome then
      let s := s.lowerStop b (old.slotStart 0)
      let s := s.releaseAbove b (s.binding b).effEnd
      let s := s.closeSlots b ((closuresOf stopOutcome 0 (s.binding b).asm.slots)) []
      if old.state = .recording then s.enterFinishing b .stopped else s
    else s

/-! ## QUERY (R21, R22) -/

/-- The binding record that holds a clip number: one that is not IDLE, or else the IDLE one that kept it (R21). -/
def State.holderOf (s : State) (clip : Clip) : Option BindingNo :=
  match s.busyBindings.find? (fun b => (s.binding b).clip = some clip) with
  | some b => some b
  | none => allBindings.find? (fun b => (s.binding b).state = .idle ∧ (s.binding b).clip = some clip)

/-- The binding form of STATS for a record, with the fields of R22 and section 11.4. R7 and R86 say that the clamped CBS
and EBS are reported in STATS; no field holds them, and the layout is followed (DESIGN CHOICE, log entry 31). -/
def Binding.stats (r : Binding) (b : BindingNo) (clip : Clip) : BindingStats :=
  { clip := clip, number := some b, state := r.state, reason := r.reason, counters := r.counters,
    live :=
      if r.state = .idle then none
      else
        some
          { source := r.terms.source, stream := r.terms.stream, role := r.coord.role, primary := r.coord.primary,
            grade := r.acct.grade, effEnd := r.effEnd, through := r.coord.ownThrough } }

/-- The binding form of STATS where no record holds the clip (R21). -/
def noBindingStats (clip : Clip) : BindingStats :=
  { clip := clip, number := none, state := .idle, reason := none, live := none, counters := {} }

/-- Part 1 of the node form of STATS (R196). -/
def State.nodeStats (s : State) : NodeStats :=
  { node := s.node, link := s.store.link, house := s.house.state, houseCounter := s.house.counter,
    housePeriod := s.house.period, freeCells := s.freeCells, active := s.busyBindings.length, counters := s.counters }

/-- Part 2 of the node form of STATS (R196). -/
def State.portStats (s : State) : PortStats :=
  { lines := allPorts.map (fun p => (s.port p).line), badPieces := allPorts.map (fun p => (s.port p).badPieces),
    lockLosses := allPorts.map (fun p => (s.port p).lockLosses) }

/-- Whether a QUERY names this node: its own station, or FFh for every node (R21, R200). -/
def State.queryNames (s : State) (target : BitVec 8) : Bool :=
  decide (target.toNat = s.opts.station.val ∨ target = 0xFF)

/-- A QUERY is answered (R21, R196). -/
def State.answerQuery (s : State) (target : BitVec 8) (clip : Clip) : State :=
  if s.node = .running ∧ s.queryNames target then
    if clip = 0 then
      let s := s.offer (.nodeStats s.nodeStats)
      s.offer (.portStats s.portStats)
    else
      match s.holderOf clip with
      | some b => s.offer (.bindingStats ((s.binding b).stats b clip))
      | none =>
        if target = 0xFF then s else s.offer (.bindingStats (noBindingStats clip))
  else s

end Sys2Proof.Machine
end

