-- ==== Sys2Proof/Machine/Node.lean ====
section
/-! DEFINITION. The feed ports and the Source Table (chapter 2), peer notices (chapter 6), the Lane Controller (chapter
9), the browse decision (chapter 8), house time, start-up and the node states (chapter 10). -/

namespace Sys2Proof.Machine

/-! ## The Source Table (R35 to R41) -/

/-- A port set holds a port (R197). -/
def inPortSet (set : BitVec 8) (p : PortNo) : Bool := set.getLsbD p.val

/-- The set of one port. -/
def portBit (p : PortNo) : BitVec 8 := BitVec.ofNat 8 (2 ^ p.val)

/-- The SOURCE notice of an entry (R41). -/
def SourceEntry.notice (e : SourceEntry) (event : SourceEvent) : Notice :=
  .source event e.source e.stream e.ports e.lastCount e.quality e.bound.isSome

/-- The Source Table offers a SOURCE, which it does in RUNNING (R41). -/
def State.offerSource (s : State) (e : SourceEntry) (event : SourceEvent) : State :=
  if s.node = .running then s.offer (e.notice event) else s

/-- A port leaves the ports-heard set of an entry (R31). -/
def SourceEntry.leave (e : SourceEntry) (p : PortNo) : SourceEntry := { e with ports := e.ports &&& ~~~ portBit p }

/-- A port leaves every ports-heard set, and a SOURCE of event PORTS is offered for each entry whose set changed, in
the order chosen (R31, R41). -/
def State.leaveSets (s : State) (p : PortNo) (order : List Nat) : State :=
  let changed := (s.sources.filter (fun e => inPortSet e.ports p)).map (fun e => e.leave p)
  let s := { s with sources := s.sources.map (fun e => if inPortSet e.ports p then e.leave p else e) }
  (arrange order changed).foldl (fun s e => s.offerSource e .ports) s

/-- Change the entry of a source and stream. -/
def State.updEntry (s : State) (source : SourceId) (stream : BitVec 8) (f : SourceEntry → SourceEntry) : State :=
  { s with sources := s.sources.map (fun e => if e.source = source ∧ e.stream = stream then f e else e) }

/-- The last frame count of an entry after an admitted piece (R37). -/
def nextLastCount (s : State) (e : SourceEntry) (count : FrameCount) : FrameCount :=
  let g := (count - e.lastCount).toNat
  if (1 ≤ g ∧ g < 2 ^ 31) ∨ 1000000 ≤ s.elapsed e.lastHeard then count else e.lastCount

/-- An entry after an admitted piece (R36). -/
def SourceEntry.heard (e : SourceEntry) (s : State) (p : PortNo) (piece : Piece) : SourceEntry :=
  { e with
    ports := e.ports ||| portBit p
    lastCount := nextLastCount s e piece.count
    lastHeard := s.now
    quality := if piece.index = 0 then piece.quality else e.quality }

/-- An admitted piece of an existing entry: the entry is updated, a port that joins is announced, and the piece goes to
the bound binding (R36, R40). A changed quality code changes the grade of a binding before its first completion (R90). The
PORTS notice of a joining port carries the entry as the whole update leaves it (DEDUCED from R41, log entry 33). -/
def State.entryPiece (s : State) (e : SourceEntry) (p : PortNo) (piece : Piece) : State :=
  let e' := e.heard s p piece
  let s := s.updEntry e.source e.stream (fun _ => e')
  let s := if inPortSet e.ports p then s else s.offerSource e' .ports
  match e.bound with
  | none => s
  | some b =>
    let s := if e'.quality = e.quality then s else s.recomputeGrade b
    s.routePiece b piece

/-- An admitted piece with no entry is learned, or dropped and counted where the table is full (R38). -/
def State.learn (s : State) (p : PortNo) (piece : Piece) : State :=
  if s.sources.length < Config.sourceEntries then
    let e : SourceEntry :=
      { source := piece.source, stream := piece.stream, ports := portBit p, lastCount := piece.count,
        lastHeard := s.now, quality := piece.quality, bound := none }
    { s with sources := s.sources ++ [e] }.offerSource e .new
  else s.updCounters (fun c => { c with learnDrop := bump c.learnDrop 1 })

/-- An admitted piece reaches the Source Table, which takes it in RUNNING (R33, R35). -/
def State.admitPiece (s : State) (p : PortNo) (piece : Piece) : State :=
  if s.node = .running then
    match s.entry? piece.source piece.stream with
    | some e => s.entryPiece e p piece
    | none => s.learn p piece
  else s

/-- An entry is aged out, in every node state but LISTENING (R35, R39), the last heard time read as a millisecond time
(R183). The GONE notice is offered in RUNNING (R41). -/
def State.ageOut (s : State) (source : SourceId) (stream : BitVec 8) : State :=
  match s.entry? source stream with
  | none => s
  | some e =>
    if s.node ≠ .listening ∧ e.bound = none ∧ s.opts.ageTimeout * 1000000 ≤ s.elapsed (msTime e.lastHeard) then
      { s with sources := s.sources.filter (fun x => ¬ (x.source = source ∧ x.stream = stream)) }.offerSource
        { e with ports := 0 } .gone
    else s

/-! ## The feed ports (R25 to R34) -/

/-- A port enters SEEKING with good run 0 (R28, R30). -/
def Port.seek (q : Port) : Port := { q with line := .seeking, good := 0, bad := 0 }

/-- A port enters DARK (R28). -/
def Port.darken (q : Port) : Port := { q with line := .dark, good := 0, bad := 0 }

/-- The lock-loss counter of a port (R34). -/
def Port.countLoss (q : Port) : Port := { q with lockLosses := bump q.lockLosses 1 }

/-- Signal becomes present on a port (R28, R33). -/
def State.signalOn (s : State) (p : PortNo) : State :=
  let s := s.updPort p (fun q => { q with signal := true })
  if (s.port p).line = .dark ∧ s.opts.enabled p ∧ s.onLane then s.updPort p Port.seek else s

/-- Signal is lost on a port (R28). -/
def State.signalOff (s : State) (p : PortNo) (order : List Nat) : State :=
  let line := (s.port p).line
  let s := s.updPort p (fun q => { q.darken with signal := false })
  if line = .locked then (s.updPort p Port.countLoss).leaveSets p order else s

/-- A bad piece on a port (R26, R29, R30). -/
def State.badPiece (s : State) (p : PortNo) (order : List Nat) : State :=
  match (s.port p).line with
  | .dark => s
  | .seeking => s.updPort p (fun q => { q with good := 0, badPieces := bump q.badPieces 1 })
  | .locked =>
    let s := s.updPort p (fun q => { q with bad := q.bad + 1, badPieces := bump q.badPieces 1 })
    if 8 ≤ (s.port p).bad then (s.updPort p (fun q => q.seek.countLoss)).leaveSets p order else s

/-- A good piece on a port (R27, R29, R30). -/
def State.goodPiece (s : State) (p : PortNo) (piece : Piece) : State :=
  match (s.port p).line with
  | .dark => s
  | .seeking =>
    if 16 ≤ (s.port p).good + 1 then
      (s.updPort p (fun q => { q with line := .locked, good := 0, bad := 0 })).admitPiece p piece
    else s.updPort p (fun q => { q with good := q.good + 1 })
  | .locked => (s.updPort p (fun q => { q with bad := 0 })).admitPiece p piece

/-! ## The transmitter (R167 to R170) -/

/-- The transmitter after the head notice has left the queue (R169, R170). -/
def Lane.popped (l : Lane) : Lane :=
  let rest := l.queue.drop 1
  { l with queue := rest, attempts := 0, lastAttempt := false, tx := if rest = [] then .idle else .defer }

/-- The idle gap completes in DEFER (R168). -/
def Lane.drawHoldoff (l : Lane) : Lane :=
  let bits := min l.attempts 6
  if bits = 0 then { l with tx := .sending }
  else
    let r := lfsrStep l.lfsr
    let slots := r.toNat % 2 ^ bits
    { l with lfsr := r, tx := if slots = 0 then .sending else .holdoff slots }

/-- The head notice is read back intact (R169). -/
def State.noticeOut (s : State) : State :=
  if s.lane.tx = .sending then
    (s.updLane Lane.popped).updCounters (fun c => { c with sent := bump c.sent 1 })
  else s

/-- A bit read back differs (R170); a notice on its last attempt after a restart is removed without a retry (R179). -/
def State.collide (s : State) : State :=
  if s.lane.tx = .sending then
    let s := s.updCounters (fun c => { c with collisions := bump c.collisions 1 })
    if s.lane.lastAttempt then s.updLane Lane.popped
    else if Config.maxCollisions ≤ s.lane.attempts + 1 then
      (s.updLane Lane.popped).updCounters (fun c => { c with abandoned := bump c.abandoned 1 })
    else s.updLane (fun l => { l with attempts := l.attempts + 1, tx := .defer })
  else s

/-! ## PRESENCE (R180, R181) -/

/-- The PRESENCE of the node as it stands (R181). -/
def State.presence (s : State) : PresenceInfo :=
  { node := s.node, link := s.store.link, house := s.house.state, houseCounter := s.house.counter,
    freeCells := s.freeCells, active := s.busyBindings.length, lines := allPorts.map (fun p => (s.port p).line) }

/-- A PRESENCE is offered and the next presence time is set P ms ahead, counted from the start of the millisecond (R180;
DEDUCED, log entry 4). -/
def State.announce (s : State) : State :=
  (s.offer (.presence s.presence)).updLane
    (fun l => { l with nextPresence := some (msTime s.now + ms s.opts.presence) })

/-- The next presence time arrives (R180). -/
def State.presenceDue (s : State) : State :=
  match s.lane.nextPresence with
  | none => s
  | some time =>
    if s.onLane ∧ reached s.now time then
      (s.offer (.presence s.presence)).updLane (fun l => { l with nextPresence := some (time + ms s.opts.presence) })
    else s

/-! ## The node states (R191 to R194) -/

/-- Every port leaves every ports-heard set and enters DARK, without a lock loss and without a notice (R33). -/
def State.darkenPorts (s : State) : State :=
  let s := allPorts.foldl (fun s p => s.updPort p Port.darken) s
  { s with sources := s.sources.map (fun e => { e with ports := 0 }) }

/-- The node enters LISTENING (R192). -/
def State.enterListening (s : State) : State :=
  let s := { s with node := .listening, fltn := true }
  let s := s.abortAll.darkenPorts
  s.updLane (fun l =>
    { l with tx := .idle, attempts := 0, queue := [], nextPresence := none, lastAttempt := false })

/-- Each enabled port that sees signal enters SEEKING (R33; DEDUCED, log entry 25). -/
def State.startPorts (s : State) : State := allPorts.foldl (fun s p =>
  if (s.port p).signal ∧ s.opts.enabled p then s.updPort p Port.seek else s) s

/-- The option load ends (R189, R190): a valid record is supplied to every block and the node enters RUNNING; an
invalid one puts it in LISTENING. The ports enter SEEKING before the PRESENCE of the new state is offered (R33, R180;
DESIGN CHOICE, log entry 41). -/
def State.loadOptions (s : State) (bytes : List Byte) : State :=
  if optionsValid bytes then
    let o := readOptions bytes
    let s := { s with
      node := .running
      opts := o
      loaded := true
      house := { s.house with period := o.housePeriod, lastFrame := s.now }
      browse := { s.browse with lfsr := lfsrSeed Config.thinningSeed o.station }
      lane := { s.lane with lfsr := lfsrSeed Config.holdoffSeed o.station } }
    s.startPorts.announce
  else s.enterListening

/-- A RESTART that names this node is taken (R193). -/
def State.takeRestart (s : State) : State :=
  let s := { s with node := .restarting }.updCounters (fun c => { c with restarts := bump c.restarts 1 })
  s.abortAll.announce

/-- The notice queue at the end of a restart: a notice in SENDING completes its attempt, every other one is removed
(R179; DEDUCED, log entry 30). -/
def Lane.clearAtRestart (l : Lane) : Lane :=
  if l.tx = .sending then { l with queue := l.locked, attempts := 0, lastAttempt := true }
  else { l with queue := [], attempts := 0, tx := .idle, lastAttempt := false }

/-- The end of a node restart (R194). Every binding has drained by then and is IDLE (R2; DEDUCED, log entry 8). -/
def State.endRestart (s : State) : State :=
  let s := s.busyBindings.foldl (fun s b => s.becomeIdle b) s
  let s := { s with
    node := .running
    sources := []
    frames := []
    freeCells := Config.poolCells
    store := { s.store with live := [], fill := [], browse := [], currentLive := 0, currentFill := 0,
                            currentBrowse := 0 }
    browse := { s.browse with occupancy := 0 }
    lane := s.lane.clearAtRestart }
  s.announce

/-! ## Reception (R171 to R174) -/

/-- Whether an intact frame is the node's own echo: it arrives in SENDING and equals the frame being driven (R172). -/
def State.ownEcho (s : State) (station : Station) (kind : Byte) (body : List Byte) : Bool :=
  match s.lane.tx, s.lane.queue.head? with
  | .sending, some n => decide (station = s.opts.station ∧ kind = n.kind ∧ body = n.body)
  | _, _ => false

/-- An intact notice is heard in RUNNING and RESTARTING. The node's own echo is delivered to no block, a notice with
the node's own station number is a twin's, and any other goes on (R171 to R174; DEDUCED, log entry 23). -/
def State.receive (s : State) (station : Station) (kind : Byte) (body : List Byte) (deliver : State → State) : State :=
  if s.onLane then
    if s.ownEcho station kind body then s
    else if station = s.opts.station then s.enterListening
    else deliver s
  else s

/-- Bytes heard on the lane that are delivered to no block (R171, R173, R174). -/
def State.hearUndelivered (s : State) (bytes : List Byte) : State :=
  if s.onLane then
    match hear bytes with
    | .noFrame => s
    | .fragment => s
    | .crcError => s.updCounters (fun c => { c with crcErrors := bump c.crcErrors 1 })
    | .framingError => s.updCounters (fun c => { c with framingErrors := bump c.framingErrors 1 })
    | .intact station kind body => s.receive station kind body (fun s => s)
  else s

/-! ## Peer notices (R99 to R101, R125, R200) -/

/-- The worst entry of a taker list: the one ranked last (R99). -/
def worstTaker : List Taker → Option Taker
  | [] => none
  | x :: xs =>
    match worstTaker xs with
    | none => some x
    | some y => if ranksAhead (x.station, x.grade) (y.station, y.grade) then some y else some x

/-- A taker list after a TAKE (R99). -/
def enterTaker (list : List Taker) (t : Taker) : List Taker :=
  if list.any (fun x => x.station = t.station) then list.map (fun x => if x.station = t.station then t else x)
  else if list.length < Config.takerEntries then list ++ [t]
  else
    match worstTaker list with
    | none => list
    | some w =>
      if ranksAhead (t.station, t.grade) (w.station, w.grade) then list.filter (fun x => x.station ≠ w.station) ++ [t]
      else list

/-- A peer's TAKE (R99). A grade above 7 is entered as 7 (R200). -/
def State.peerTake (s : State) (station : Station) (clip : Clip) (grade : Nat) : State :=
  if s.node = .running ∧ station ≠ 0 then
    match s.activeFor clip with
    | none => s
    | some b =>
      (s.updCoord b (fun c =>
        { c with takers := enterTaker c.takers ⟨station, min 7 grade, msTime s.now⟩ })).evaluate b
  else s

/-- A peer's DONE (R101). -/
def State.peerDone (s : State) (station : Station) (clip : Clip) : State :=
  if s.node = .running then
    match s.activeFor clip with
    | none => s
    | some b =>
      (s.updCoord b (fun c => { c with takers := c.takers.filter (fun x => x.station ≠ station) })).evaluate b
  else s

/-- A taker entry not heard for the taker timeout is removed (R100). -/
def State.expireTaker (s : State) (b : BindingNo) (station : Station) : State :=
  let old := (s.binding b).coord.takers.any (fun x =>
    decide (x.station = station ∧ s.opts.takerTimeout * 1000 ≤ s.elapsed x.lastHeard))
  if s.isActive b ∧ old then
    (s.updCoord b (fun c => { c with takers := c.takers.filter (fun x => x.station ≠ station) })).evaluate b
  else s

/-- The ranges of a notice's runs of one kind; a run whose count is 0 is passed over (R200). -/
def runRanges (kind : Nat) (runs : List WireRun) : List (Nat × Nat) :=
  (runs.filter (fun r => r.kind.toNat = kind ∧ r.count ≠ 0)).map
    (fun r => (r.start.toNat, r.start.toNat + r.count.toNat))

/-- Ranges of one kind are inserted one after another. -/
def State.insertAll (s : State) (b : BindingNo) (k : ExtentKind) (ranges : List (Nat × Nat)) : State :=
  ranges.foldl (fun s r => s.insertExtent b k r.1 r.2) s

/-- Whether a held frame is filled after an EXTENT: its stored position lies in an inserted PRIMARY-GAP range or below
the primary through (R114). -/
def Held.passedOver (gaps : List (Nat × Nat)) (through : Option Nat) (h : Held) : Bool :=
  gaps.any (fun r => decide (r.1 ≤ h.position ∧ h.position < r.2)) ||
    (match through with
    | none => false
    | some th => decide (h.position < th))

/-- A peer's EXTENT (R125; DEDUCED, log entry 15). -/
def State.peerExtent (s : State) (station : Station) (clip : Clip) (through : Nat) (runs : List WireRun) : State :=
  if s.node = .running then
    match s.activeFor clip with
    | none => s
    | some b =>
      let e := (s.binding b).effEnd
      let fromPrimary := decide ((s.binding b).coord.primary = some station)
      let written := runRanges 1 runs
      let gaps := if fromPrimary then runRanges 2 runs else []
      let s := (s.insertAll b .peerWritten written).insertAll b .primaryGap gaps
      let s := if fromPrimary then s.updCoord b (fun c => { c with primaryThrough := some through }) else s
      let s := s.yieldCovered b (clipRanges e written)
      let passed := if fromPrimary then some through else none
      s.fillAll b ((s.binding b).coord.held.filter (Held.passedOver (clipRanges e gaps) passed))
  else s

/-! ## Timed work of a binding (R98, R102, R115, R123, R84, R91) -/

/-- The settle deadline of a SETTLING binding arrives (R102). -/
def State.settle (s : State) (b : BindingNo) : State :=
  match (s.binding b).coord.settle with
  | none => s
  | some time =>
    if s.isActive b ∧ (s.binding b).coord.role = .settling ∧ reached s.now time then
      let s := s.updCoord b (fun c => { c with settle := none })
      s.changeView b (s.bestStation b).1
    else s

/-- The next TAKE time of a binding arrives (R98). -/
def State.takeDue (s : State) (b : BindingNo) : State :=
  if s.isActive b ∧ reached s.now (s.binding b).coord.nextTake then
    (s.offerTake b).updCoord b (fun c => { c with nextTake := c.nextTake + ms s.opts.presence })
  else s

/-- The due held frame of lowest stored position is filled (R115; DESIGN CHOICE, log entry 16). -/
def State.holdDue (s : State) (b : BindingNo) : State :=
  if s.isActive b then
    match (s.binding b).coord.held.find? (fun h => houseReached s.house.counter h.deadline) with
    | none => s
    | some h => s.fillHeld b h
  else s

/-- The next extent time of a binding arrives (R123; DEDUCED, log entry 20). -/
def State.extentDue (s : State) (b : BindingNo) : State :=
  if s.isActive b ∧ houseReached s.house.counter (s.binding b).coord.nextExtent then
    let s := s.updCoord b (fun c => { c with nextExtent := c.nextExtent + BitVec.ofNat 32 s.opts.extentPeriod })
    let r := s.binding b
    if r.state ≠ .armed ∧ (r.coord.report ≠ [] ∨ r.coord.lastThrough ≠ some r.coord.ownThrough) then
      (s.updCoord b (fun c =>
        { c with report := c.report.drop Config.noticeRuns, lastThrough := some c.ownThrough })).offer
        (.extent (r.clip.getD 0) r.coord.role r.coord.ownThrough (r.coord.report.take Config.noticeRuns))
    else s
  else s

/-- Every binding in ARMED, RECORDING or FINISHING whose rate is not 0 is credited (R84). -/
def State.creditAll (s : State) : State :=
  s.activeBindings.foldl (fun s b =>
    if (s.binding b).terms.rate = 0 then s
    else
      s.updBinding b (fun r =>
        let c := creditOf r.terms.rate r.terms.cbs r.terms.ebs r.acct.committed r.acct.excess
        { r with acct := { r.acct with committed := c.1, excess := c.2 } })) s

/-- A binding becomes silent (R91), the last arrival read as a millisecond time (R183). -/
def State.fallSilent (s : State) (b : BindingNo) : State :=
  let r := s.binding b
  if s.isActive b ∧ ¬ r.acct.silent ∧ 1000000 ≤ s.elapsed (msTime (r.asm.lastArrival.getD r.asm.takenAt)) then
    (s.updAcct b (fun a => { a with silent := true })).recomputeGrade b
  else s

/-! ## House time (R184 to R187) -/

/-- House frames are made once a valid option record has been loaded (R184; DEDUCED, log entry 29). -/
def State.houseRuns (s : State) : Bool := s.loaded && decide (s.node ≠ .loading)

/-- A house frame at a time (R184). -/
def House.frame (h : House) (now : Time) (byPulse : Bool) : House :=
  { h with counter := h.counter + 1, lastFrame := now, byPulse := byPulse }

/-- An HREF pulse (R185, R187). -/
def House.pulse (h : House) (now : Time) : House :=
  let g := (now - h.lastFrame).toNat
  match h.state with
  | .referenced =>
    if g < h.period / 2 then h
    else
      { h.frame now true with
        period := if h.byPulse then approach h.period (clampTo 10000 100000 g) 8 else h.period }
  | .freeRun =>
    if g < h.period / 2 then { h with state := .referenced, lastFrame := now, byPulse := true }
    else { h.frame now true with state := .referenced }

/-! ## The browse decision (R155 to R161) -/

/-- The four results of a browse decision (R155). -/
inductive BrowseResult where
  | chosen
  | oversize
  | thinned
  | built
deriving DecidableEq, Repr

/-- The thinning band of the occupancy average (R158). -/
def BrowseUnit.band (u : BrowseUnit) : Nat := min 15 (u.occupancy / 1024)

/-- The draw of a value of the thinning LFSR (R159). -/
def drawOf (r : BitVec 16) : Nat := r.toNat % 1024

/-- The ring index of a browse slot (R155). -/
def ringIndex (slot : Nat) : Fin 32 := Fin.ofNat 32 slot

/-- The result of a decision, by the first test that holds (R155). -/
def State.browseResult (s : State) (b : BindingNo) (f : FrameRecord) : BrowseResult :=
  let r := s.binding b
  let slot := f.spanStart / r.terms.divisor
  if r.ring[ringIndex slot] = some slot then .chosen
  else if r.terms.browseCells - 1 < f.base then .oversize
  else if f.colour = some .yellow ∧
      drawOf (lfsrStep s.browse.lfsr) < s.opts.thinning.getD s.browse.band 0 then .thinned
  else .built

/-- Set the ring entry of a browse slot (R156). -/
def State.setRing (s : State) (b : BindingNo) (slot : Nat) : State :=
  s.updBinding b (fun r => { r with ring := r.ring.set (ringIndex slot) (some slot) })

/-- The thinning LFSR is stepped for a YELLOW frame (R155). -/
def State.stepThinning (s : State) (f : FrameRecord) : State :=
  if f.colour = some .yellow then { s with browse := { s.browse with lfsr := lfsrStep s.browse.lfsr } } else s

/-- The decision on a frame (R155). It is made without a test of E, also for a frame that a STOP has left at or above E since
it was handed over (R24, R165; DESIGN CHOICE, log entry 39). -/
def State.decideBrowse (s : State) (b : BindingNo) (f : FrameRecord) : State :=
  let slot := f.spanStart / (s.binding b).terms.divisor
  match s.browseResult b f with
  | .chosen => s.giveBack f.index
  | .oversize => ((s.setRing b slot).count b .browseHoles).giveBack f.index
  | .thinned => ((s.stepThinning f).count b .thinned).giveBack f.index
  | .built => ((s.stepThinning f).setRing b slot).handOver (browseJob b f slot)

/-- The oldest frame of a binding that waits for its decision is decided, in RUNNING (R153, R155; DEDUCED, log entry
26). -/
def State.browseNext (s : State) (b : BindingNo) : State :=
  if s.node = .running then
    match (s.binding b).undecided with
    | [] => s
    | index :: rest =>
      let s := s.updBinding b (fun r => { r with undecided := rest })
      match s.frame? index with
      | none => s
      | some f => s.decideBrowse b f
  else s

/-- The occupancy average after a millisecond tick (R158). -/
def State.updateOccupancy (s : State) : State :=
  { s with browse := { s.browse with
      occupancy := approach s.browse.occupancy (Config.poolCells - s.freeCells) 16 } }

end Sys2Proof.Machine
end

