-- ==== Sys2Proof/Machine/BindingEvents.lean ====
section
/-! DEFINITION. The meanings of the commands that end a recording: the end of a drain, quietness and the DONE. -/

namespace Sys2Proof.Machine

/-- DRAIN_END (R19). -/
def execDrainEnd (t : Time) (b : BindingNo) (s : State) : Host.Outcome State Fault Refusal :=
  .next ((s.atTime t).endDrain b)

/-- BINDING_QUIET (R17). -/
def execBindingQuiet (t : Time) (b : BindingNo) (s : State) : Host.Outcome State Fault Refusal :=
  .next ((s.atTime t).becomeQuiet b)

/-- DONE_QUEUED (R20). -/
def execDoneQueued (t : Time) (b : BindingNo) (s : State) : Host.Outcome State Fault Refusal :=
  .next ((s.atTime t).queueDone b)

end Sys2Proof.Machine
end

