-- ==== Sys2Proof/Machine/BindingTimers.lean ====
section
/-! DEFINITION. The meanings of the timed commands of bindings and of the millisecond tick. -/

namespace Sys2Proof.Machine

/-- SLOT_DEADLINE (R55). -/
def execSlotDeadline (t : Time) (b : BindingNo) (count : FrameCount) (s : State) : Host.Outcome State Fault Refusal :=
  .next ((s.atTime t).slotDeadline b count)

/-- METER_CREDIT (R84). -/
def execMeterCredit (t : Time) (s : State) : Host.Outcome State Fault Refusal :=
  let s := s.atTime t
  .next (if msTick t then s.creditAll else s)

/-- BINDING_SILENT (R91): at a millisecond tick. -/
def execBindingSilent (t : Time) (b : BindingNo) (s : State) : Host.Outcome State Fault Refusal :=
  let s := s.atTime t
  .next (if msTick t then s.fallSilent b else s)

/-- TAKER_EXPIRY (R100): at a millisecond tick. -/
def execTakerExpiry (t : Time) (b : BindingNo) (station : Station) (s : State) : Host.Outcome State Fault Refusal :=
  let s := s.atTime t
  .next (if msTick t then s.expireTaker b station else s)

/-- OCCUPANCY_UPDATE (R158): at a millisecond tick, in every node state. -/
def execOccupancyUpdate (t : Time) (s : State) : Host.Outcome State Fault Refusal :=
  let s := s.atTime t
  .next (if msTick t then s.updateOccupancy else s)

/-- SETTLE_DEADLINE (R102). -/
def execSettleDeadline (t : Time) (b : BindingNo) (s : State) : Host.Outcome State Fault Refusal :=
  .next ((s.atTime t).settle b)

/-- TAKE_TIME (R98). -/
def execTakeTime (t : Time) (b : BindingNo) (s : State) : Host.Outcome State Fault Refusal :=
  .next ((s.atTime t).takeDue b)

/-- HOLD_DEADLINE (R115). -/
def execHoldDeadline (t : Time) (b : BindingNo) (s : State) : Host.Outcome State Fault Refusal :=
  .next ((s.atTime t).holdDue b)

/-- EXTENT_TIME (R123). -/
def execExtentTime (t : Time) (b : BindingNo) (s : State) : Host.Outcome State Fault Refusal :=
  .next ((s.atTime t).extentDue b)

end Sys2Proof.Machine
end

