-- ==== Sys2Proof/Machine/FeedPorts.lean ====
section
/-! DEFINITION. The meanings of the feed port and Source Table commands. -/

namespace Sys2Proof.Machine

/-- SIGNAL_PRESENT (R28). -/
def execSignalPresent (t : Time) (port : PortNo) (s : State) : Host.Outcome State Fault Refusal :=
  .next ((s.atTime t).signalOn port)

/-- SIGNAL_LOST (R28). -/
def execSignalLost (t : Time) (port : PortNo) (order : List Nat) (s : State) : Host.Outcome State Fault Refusal :=
  .next ((s.atTime t).signalOff port order)

/-- PAYLOAD_LENGTH_BAD (R25). A length that can be framed is no such event. -/
def execPayloadLengthBad (t : Time) (port : PortNo) (len : BitVec 16) (order : List Nat) (s : State) :
    Host.Outcome State Fault Refusal :=
  let s := s.atTime t
  .next (if lengthGood len.toNat then s else s.badPiece port order)

/-- PIECE_FRAMED (R26). A payload that no receiver can frame is no such event. -/
def execPieceFramed (t : Time) (port : PortNo) (piece : Piece) (order : List Nat) (s : State) :
    Host.Outcome State Fault Refusal :=
  let s := s.atTime t
  .next (
    if lengthGood piece.payload.length then
      if pieceGood piece then s.goodPiece port piece else s.badPiece port order
    else s)

/-- SOURCE_AGE_OUT (R39): at a millisecond tick. -/
def execSourceAgeOut (t : Time) (source : SourceId) (stream : BitVec 8) (s : State) :
    Host.Outcome State Fault Refusal :=
  let s := s.atTime t
  .next (if msTick t then s.ageOut source stream else s)

end Sys2Proof.Machine
end

