-- ==== Sys2Proof/Machine/HouseTime.lean ====
section
/-! DEFINITION. The meanings of the house time commands. -/

namespace Sys2Proof.Machine

/-- HREF_PULSE (R185, R187). -/
def execHrefPulse (t : Time) (s : State) : Host.Outcome State Fault Refusal :=
  let s := s.atTime t
  .next (if s.houseRuns then s.updHouse (fun h => h.pulse t) else s)

/-- FREE_RUN_ENTRY (R186): 2 × Mh has passed since the last frame time in REFERENCED. -/
def execFreeRunEntry (t : Time) (s : State) : Host.Outcome State Fault Refusal :=
  let s := s.atTime t
  .next (
    if s.houseRuns ∧ s.house.state = .referenced ∧ 2 * s.house.period ≤ s.elapsed s.house.lastFrame then
      (s.updHouse (fun h => { h.frame t false with state := .freeRun })).updCounters
        (fun c => { c with referenceLoss := bump c.referenceLoss 1 })
    else s)

/-- INTERNAL_HOUSE_FRAME (R186): Mh has passed since the last frame time in FREE-RUN. -/
def execInternalHouseFrame (t : Time) (s : State) : Host.Outcome State Fault Refusal :=
  let s := s.atTime t
  .next (
    if s.houseRuns ∧ s.house.state = .freeRun ∧ s.house.period ≤ s.elapsed s.house.lastFrame then
      s.updHouse (fun h => h.frame t false)
    else s)

end Sys2Proof.Machine
end

