-- ==== Sys2Proof/Machine/LaneEvents.lean ====
section
/-! DEFINITION. The meanings of the transmitter commands and of the presence time. -/

namespace Sys2Proof.Machine

/-- IDLE_GAP (R168). -/
def execIdleGap (t : Time) (s : State) : Host.Outcome State Fault Refusal :=
  let s := s.atTime t
  .next (if s.lane.tx = .defer then s.updLane Lane.drawHoldoff else s)

/-- The transmitter leaves HOLDOFF for a state (R168). -/
def State.leaveHoldoff (s : State) (next : TransmitterState) : State :=
  match s.lane.tx with
  | .holdoff _ => s.updLane (fun l => { l with tx := next })
  | .idle => s
  | .defer => s
  | .sending => s

/-- HOLDOFF_END (R168). -/
def execHoldoffEnd (t : Time) (s : State) : Host.Outcome State Fault Refusal :=
  .next ((s.atTime t).leaveHoldoff .sending)

/-- HOLDOFF_GIVEN_UP (R168): the attempt count stays. -/
def execHoldoffGivenUp (t : Time) (s : State) : Host.Outcome State Fault Refusal :=
  .next ((s.atTime t).leaveHoldoff .defer)

/-- NOTICE_SENT (R169). -/
def execNoticeSent (t : Time) (s : State) : Host.Outcome State Fault Refusal := .next ((s.atTime t).noticeOut)

/-- COLLISION (R170). -/
def execCollision (t : Time) (s : State) : Host.Outcome State Fault Refusal := .next ((s.atTime t).collide)

/-- PRESENCE_TIME (R180). -/
def execPresenceTime (t : Time) (s : State) : Host.Outcome State Fault Refusal := .next ((s.atTime t).presenceDue)

end Sys2Proof.Machine
end

