-- ==== Sys2Proof/Machine/PeerNotices.lean ====
section
/-! DEFINITION. The meanings of the notices of peer stations. -/

namespace Sys2Proof.Machine

/-- TAKE (R99). The role and primary-in-view are not read (R200). -/
def execTake (t : Time) (station : Station) (clip : Clip) (grade role primary : BitVec 8) (s : State) :
    Host.Outcome State Fault Refusal :=
  .next ((s.atTime t).receive station 0x22
    (bytesOf 4 clip.toNat ++ bytesOf 1 grade.toNat ++ bytesOf 1 role.toNat ++ bytesOf 1 primary.toNat)
    (fun s => s.peerTake station clip grade.toNat))

/-- EXTENT (R125). The role is not read (R200). -/
def execExtent (t : Time) (station : Station) (clip : Clip) (role : BitVec 8) (through : BitVec 24)
    (runs : List WireRun) (s : State) : Host.Outcome State Fault Refusal :=
  .next ((s.atTime t).receive station 0x24
    (bytesOf 4 clip.toNat ++ bytesOf 1 role.toNat ++ bytesOf 3 through.toNat ++ runs.flatMap wireRunBytes)
    (fun s => s.peerExtent station clip through.toNat runs))

/-- DONE (R101). The reason and the effective end are not read (R200). -/
def execDone (t : Time) (station : Station) (clip : Clip) (reason : BitVec 8) (endPosition : BitVec 24) (s : State) :
    Host.Outcome State Fault Refusal :=
  .next ((s.atTime t).receive station 0x25
    (bytesOf 4 clip.toNat ++ bytesOf 1 reason.toNat ++ bytesOf 3 endPosition.toNat)
    (fun s => s.peerDone station clip))

/-- NOTICE_NOT_DELIVERED (R171, R173, R174). -/
def execNoticeNotDelivered (t : Time) (bytes : List Byte) (s : State) : Host.Outcome State Fault Refusal :=
  .next ((s.atTime t).hearUndelivered bytes)

end Sys2Proof.Machine
end

