-- ==== Sys2Proof/Machine/Requests.lean ====
section
/-! DEFINITION. The meanings of the requests of edit-server stations to bindings, and of QUERY. -/

namespace Sys2Proof.Machine

/-- RECORD (R4). -/
def execRecord (t : Time) (station : Station) (req : Request) (order : List Nat) (s : State) :
    Host.Outcome State Fault Refusal :=
  .next ((s.atTime t).receive station 0x11 (requestBody req) (fun s =>
    if s.node = .running then s.considerRecord req order else s))

/-- What a STOP does to the binding in ARMED, RECORDING or FINISHING for its clip, in RUNNING (R13). -/
def State.stopClip (s : State) (clip : Clip) (p : Nat) : State :=
  if s.node = .running then
    match s.activeFor clip with
    | none => s
    | some b => if p = Config.noStop then s.stopNow b else s.stopAt b p
  else s

/-- STOP (R13). -/
def execStop (t : Time) (station : Station) (clip : Clip) (position : BitVec 24) (s : State) :
    Host.Outcome State Fault Refusal :=
  .next ((s.atTime t).receive station 0x12 (bytesOf 4 clip.toNat ++ bytesOf 3 position.toNat)
    (fun s => s.stopClip clip position.toNat))

/-- IMMEDIATE_STOP (R15): a STOP with P = FFFFFFh. -/
def execImmediateStop (t : Time) (station : Station) (clip : Clip) (s : State) : Host.Outcome State Fault Refusal :=
  .next ((s.atTime t).receive station 0x12 (bytesOf 4 clip.toNat ++ bytesOf 3 Config.noStop)
    (fun s => s.stopClip clip Config.noStop))

/-- What an ABORT does to the binding in ARMED, RECORDING or FINISHING for its clip, in RUNNING (R18). -/
def State.abortClip (s : State) (clip : Clip) : State :=
  if s.node = .running then
    match s.activeFor clip with
    | none => s
    | some b => s.abortBinding b .no
  else s

/-- ABORT (R18). -/
def execAbort (t : Time) (station : Station) (clip : Clip) (s : State) : Host.Outcome State Fault Refusal :=
  .next ((s.atTime t).receive station 0x13 (bytesOf 4 clip.toNat) (fun s => s.abortClip clip))

/-- QUERY_BINDING (R21). -/
def execQueryBinding (t : Time) (station : Station) (target : BitVec 8) (clip : Clip) (s : State) :
    Host.Outcome State Fault Refusal :=
  .next ((s.atTime t).receive station 0x14 (bytesOf 1 target.toNat ++ bytesOf 4 clip.toNat)
    (fun s => s.answerQuery target clip))

/-- QUERY_NODE (R196): a QUERY with clip number 0. -/
def execQueryNode (t : Time) (station : Station) (target : BitVec 8) (s : State) : Host.Outcome State Fault Refusal :=
  .next ((s.atTime t).receive station 0x14 (bytesOf 1 target.toNat ++ bytesOf 4 0)
    (fun s => s.answerQuery target 0))

end Sys2Proof.Machine
end

