-- ==== Sys2Proof/Machine/StartUp.lean ====
section
/-! DEFINITION. The meanings of the start-up and restart commands: cold reset, option load, RESTART and the end of a restart. -/

namespace Sys2Proof.Machine

/-- COLD_RESET (R188): every block takes its cold reset values and the node enters LOADING. -/
def execColdReset (s : State) : Host.Outcome State Fault Refusal :=
  .next { State.reset with pending := s.pending }

/-- OPTION_LOAD (R189). -/
def execOptionLoad (t : Time) (bytes : Vector Byte 71) (s : State) : Host.Outcome State Fault Refusal :=
  let s := s.atTime t
  .next (if s.node = .loading then s.loadOptions bytes.toList else s)

/-- Whether a target byte is this node's own station number (R193, R200). -/
def State.isTarget (s : State) (target : BitVec 8) : Bool := decide (target.toNat = s.opts.station.val)

/-- RESTART (R193). -/
def execRestart (t : Time) (station : Station) (target : BitVec 8) (s : State) : Host.Outcome State Fault Refusal :=
  .next ((s.atTime t).receive station 0x15 (bytesOf 1 target.toNat) (fun s =>
    if s.node = .running ∧ s.isTarget target then s.takeRestart else s))

/-- RESTART_END (R194). -/
def execRestartEnd (t : Time) (s : State) : Host.Outcome State Fault Refusal :=
  let s := s.atTime t
  .next (if s.node = .restarting ∧ s.inFlight = false then s.endRestart else s)

end Sys2Proof.Machine
end

