-- ==== Sys2Proof/Machine/StoreEvents.lean ====
section
/-! DEFINITION. The meanings of the browse decision and of the Store Port commands. -/

namespace Sys2Proof.Machine

/-- BROWSE_DECISION (R155). -/
def execBrowseDecision (t : Time) (b : BindingNo) (s : State) : Host.Outcome State Fault Refusal :=
  .next ((s.atTime t).browseNext b)

/-- GRANT (R136). -/
def execGrant (t : Time) (tag : Tag) (s : State) : Host.Outcome State Fault Refusal :=
  .next ((s.atTime t).grantOnce tag)

/-- PACING_HOLD_END (R137). -/
def execPacingHoldEnd (t : Time) (s : State) : Host.Outcome State Fault Refusal :=
  let s := s.atTime t
  .next (
    match s.store.pacing with
    | none => s
    | some h => if s.holdPassed h then s.updStore (fun st => { st with pacing := none }) else s)

/-- STORE_COMPLETION (R139). -/
def execStoreCompletion (t : Time) (tag : Tag) (status : Status) (order : List Nat) (s : State) :
    Host.Outcome State Fault Refusal :=
  .next ((s.atTime t).complete tag status order)

/-- STORE_TIMEOUT (R142). -/
def execStoreTimeout (t : Time) (tag : Tag) (order : List Nat) (s : State) : Host.Outcome State Fault Refusal :=
  .next ((s.atTime t).timeOut tag order)

/-- TAG_RETIREMENT_END (R142). -/
def execTagRetirementEnd (t : Time) (tag : Tag) (s : State) : Host.Outcome State Fault Refusal :=
  let s := s.atTime t
  .next (
    match s.tag tag with
    | .free => s
    | .busy _ => s
    | .retired release => if reached t release then s.setTag tag .free else s)

/-- SRDYN_HIGH (R144). -/
def execSrdynHigh (t : Time) (order : List Nat) (s : State) : Host.Outcome State Fault Refusal :=
  .next ((s.atTime t).enterTraining order)

/-- LINK_UP (R144): SRDYN has been low for 1 ms, which is at least 1 ms after TRAINING was entered. -/
def execLinkUp (t : Time) (order : List Nat) (s : State) : Host.Outcome State Fault Refusal :=
  let s := s.atTime t
  .next (
    if s.store.link = .training ∧ 1000 ≤ s.elapsed s.store.trainingSince then s.enterUp order else s)

/-- PROBE_TIME (R147). -/
def execProbeTime (t : Time) (tag : Tag) (s : State) : Host.Outcome State Fault Refusal :=
  .next ((s.atTime t).probe tag)

end Sys2Proof.Machine
end

