-- ==== Sys2Proof/Machine/Dispatch.lean ====
section
/-! DEFINITION. The meaning of each command: one arm per row of the table. -/

namespace Sys2Proof.Machine

def exec (i : Instr) (s : State) : Host.Outcome State Fault Refusal :=
  match i with
  | .coldReset => Sys2Proof.Machine.execColdReset s
  | .optionLoad t bytes => Sys2Proof.Machine.execOptionLoad t bytes s
  | .signalPresent t port => Sys2Proof.Machine.execSignalPresent t port s
  | .signalLost t port order => Sys2Proof.Machine.execSignalLost t port order s
  | .payloadLengthBad t port len order => Sys2Proof.Machine.execPayloadLengthBad t port len order s
  | .pieceFramed t port piece order => Sys2Proof.Machine.execPieceFramed t port piece order s
  | .slotDeadline t b count => Sys2Proof.Machine.execSlotDeadline t b count s
  | .meterCredit t => Sys2Proof.Machine.execMeterCredit t s
  | .bindingSilent t b => Sys2Proof.Machine.execBindingSilent t b s
  | .sourceAgeOut t source stream => Sys2Proof.Machine.execSourceAgeOut t source stream s
  | .takerExpiry t b station => Sys2Proof.Machine.execTakerExpiry t b station s
  | .occupancyUpdate t => Sys2Proof.Machine.execOccupancyUpdate t s
  | .settleDeadline t b => Sys2Proof.Machine.execSettleDeadline t b s
  | .takeTime t b => Sys2Proof.Machine.execTakeTime t b s
  | .holdDeadline t b => Sys2Proof.Machine.execHoldDeadline t b s
  | .extentTime t b => Sys2Proof.Machine.execExtentTime t b s
  | .hrefPulse t => Sys2Proof.Machine.execHrefPulse t s
  | .freeRunEntry t => Sys2Proof.Machine.execFreeRunEntry t s
  | .internalHouseFrame t => Sys2Proof.Machine.execInternalHouseFrame t s
  | .record t station req order => Sys2Proof.Machine.execRecord t station req order s
  | .stop t station clip position => Sys2Proof.Machine.execStop t station clip position s
  | .immediateStop t station clip => Sys2Proof.Machine.execImmediateStop t station clip s
  | .abort t station clip => Sys2Proof.Machine.execAbort t station clip s
  | .drainEnd t b => Sys2Proof.Machine.execDrainEnd t b s
  | .bindingQuiet t b => Sys2Proof.Machine.execBindingQuiet t b s
  | .doneQueued t b => Sys2Proof.Machine.execDoneQueued t b s
  | .queryBinding t station target clip => Sys2Proof.Machine.execQueryBinding t station target clip s
  | .queryNode t station target => Sys2Proof.Machine.execQueryNode t station target s
  | .restart t station target => Sys2Proof.Machine.execRestart t station target s
  | .restartEnd t => Sys2Proof.Machine.execRestartEnd t s
  | .take t station clip grade role primary => Sys2Proof.Machine.execTake t station clip grade role primary s
  | .extent t station clip role through runs => Sys2Proof.Machine.execExtent t station clip role through runs s
  | .done t station clip reason endPosition => Sys2Proof.Machine.execDone t station clip reason endPosition s
  | .noticeNotDelivered t bytes => Sys2Proof.Machine.execNoticeNotDelivered t bytes s
  | .idleGap t => Sys2Proof.Machine.execIdleGap t s
  | .holdoffEnd t => Sys2Proof.Machine.execHoldoffEnd t s
  | .holdoffGivenUp t => Sys2Proof.Machine.execHoldoffGivenUp t s
  | .noticeSent t => Sys2Proof.Machine.execNoticeSent t s
  | .collision t => Sys2Proof.Machine.execCollision t s
  | .presenceTime t => Sys2Proof.Machine.execPresenceTime t s
  | .browseDecision t b => Sys2Proof.Machine.execBrowseDecision t b s
  | .grant t tag => Sys2Proof.Machine.execGrant t tag s
  | .pacingHoldEnd t => Sys2Proof.Machine.execPacingHoldEnd t s
  | .storeCompletion t tag status order => Sys2Proof.Machine.execStoreCompletion t tag status order s
  | .storeTimeout t tag order => Sys2Proof.Machine.execStoreTimeout t tag order s
  | .tagRetirementEnd t tag => Sys2Proof.Machine.execTagRetirementEnd t tag s
  | .srdynHigh t order => Sys2Proof.Machine.execSrdynHigh t order s
  | .linkUp t order => Sys2Proof.Machine.execLinkUp t order s
  | .probeTime t tag => Sys2Proof.Machine.execProbeTime t tag s

end Sys2Proof.Machine
end

