-- ==== Sys2Proof/Safety.lean ====
section
/-! DEFINITION. What a safe run keeps: the laws that the spec states of every moment (R11, R42, R43, R58, R62, R76, R88,
R108, R122, R136, R146, R159, R168, R175, R192), as predicates of a state, and the parts of a state that a command leaves
alone. -/

namespace Sys2Proof.Machine

/-! ## Laws of one binding -/

/-- The buckets of a meter lie within their sizes (R88). -/
def Binding.meterBounded (r : Binding) : Prop :=
  r.acct.committed ≤ r.terms.cbs ∧ r.acct.excess ≤ r.terms.ebs

/-- E is the smaller of the clip length and the stop position, the own through does not pass it (R76, R97), and the
window has eight slots and the history at most eight outcomes (R58, R89). -/
def Binding.endsAgree (r : Binding) : Prop :=
  r.effEnd = min r.terms.clipLength r.stopPos ∧ r.coord.ownThrough ≤ r.effEnd ∧
    r.asm.slots.length = Config.windowSlots ∧ r.acct.history.length ≤ Config.historyOutcomes

/-- The extents of a map are not empty and stand in increasing order, none overlapping the next and none touching a next
one of its own kind (R107, R108). -/
def mapOrdered : List Extent → Prop
  | [] => True
  | [x] => x.start < x.stop
  | x :: y :: rest => x.start < x.stop ∧ x.stop ≤ y.start ∧ (x.stop = y.start → x.kind ≠ y.kind) ∧ mapOrdered (y :: rest)

/-- The map is in its one form with at most 64 extents (R108), the report buffer holds at most 12 runs (R122) and the
taker list at most 8 entries (R99). -/
def Coordination.bounded (c : Coordination) : Prop :=
  mapOrdered c.map ∧ c.map.length ≤ Config.mapExtents ∧ c.report.length ≤ Config.reportRuns ∧
    c.takers.length ≤ Config.takerEntries

/-- The 21 binding counters stand at 65535 or below (R23). -/
def Binding.countersBounded (r : Binding) : Prop := ∀ x ∈ r.counters.list, x ≤ 65535

/-! ## Laws of the node -/

/-- Every counter stands at 65535 or below (R23, R195). -/
def State.countersBounded (s : State) : Prop :=
  (∀ b : BindingNo, (s.binding b).countersBounded) ∧
    (∀ p : PortNo, (s.port p).badPieces ≤ 65535 ∧ (s.port p).lockLosses ≤ 65535) ∧
    ∀ x ∈ s.counters.list, x ≤ 65535

/-- Every binding's meter is within its bounds (R88). -/
def State.metersBounded (s : State) : Prop := ∀ b : BindingNo, (s.binding b).meterBounded

/-- Every binding's ends agree (R58, R76, R89, R97). -/
def State.endsAgree (s : State) : Prop := ∀ b : BindingNo, (s.binding b).endsAgree

/-- Every binding's coordination lists are bounded and its map is ordered (R99, R108, R122). -/
def State.coordBounded (s : State) : Prop := ∀ b : BindingNo, (s.binding b).coord.bounded

/-- FLTN is asserted exactly in LISTENING (R191, R192). -/
def State.fltnAgrees (s : State) : Prop := s.fltn = true ↔ s.node = .listening

/-- The cells held by the frame records. -/
def State.heldCells (s : State) : Nat := (s.frames.map (fun f => f.cells.length)).sum

/-- Free cells and held cells total 16384, and the frame table holds at most 2048 records, each under its own index
(R62, R63). -/
def State.poolWhole (s : State) : Prop :=
  s.freeCells + s.heldCells = Config.poolCells ∧ s.frames.length ≤ Config.frameRecords ∧
    s.frames.Pairwise (fun f g => f.index < g.index)

/-- The queue holds at most 16 notices, the transmitter is IDLE exactly when the queue is empty, and fewer than 16
collisions stand against the head (R167, R170, R175). -/
def Lane.bounded (l : Lane) : Prop :=
  l.queue.length ≤ Config.queueNotices ∧ (l.tx = .idle ↔ l.queue = []) ∧ l.attempts < Config.maxCollisions

/-- The laws of the lane, and the two shift registers are never 0 (R159, R168). -/
def State.laneBounded (s : State) : Prop :=
  s.lane.bounded ∧ s.lane.lfsr ≠ 0 ∧ s.browse.lfsr ≠ 0

/-- A class queue holds at most 256 jobs, all of its class, none while the link is not UP, and an empty queue has the
current value 0 (R135, R136, R146). -/
def Store.queueLaw (st : Store) (c : JobClass) : Prop :=
  (st.queue c).length ≤ Config.queueJobs ∧ (∀ j ∈ st.queue c, j.cls = c) ∧ (st.link ≠ .up → st.queue c = []) ∧
    (st.queue c = [] → st.current c = 0)

/-- The laws of the three class queues. -/
def State.queuesLawful (s : State) : Prop := ∀ c : JobClass, s.store.queueLaw c

/-- Two entries with different keys. -/
def SourceEntry.differs (e e' : SourceEntry) : Prop := e.source ≠ e'.source ∨ e.stream ≠ e'.stream

/-- The Source Table holds at most 64 entries with distinct keys (R42); an entry is bound exactly to the binding that is
not IDLE and records its source (R43); and no two bindings that are not IDLE hold one clip (R11). -/
def State.tableLawful (s : State) : Prop :=
  s.sources.length ≤ Config.sourceEntries ∧ s.sources.Pairwise SourceEntry.differs ∧
    (∀ b : BindingNo, (s.binding b).state ≠ .idle →
      (s.binding b).clip ≠ none ∧
        ∃ e ∈ s.sources, e.bound = some b ∧ e.source = (s.binding b).terms.source ∧
          e.stream = (s.binding b).terms.stream) ∧
    (∀ e ∈ s.sources, ∀ b : BindingNo, e.bound = some b →
      (s.binding b).state ≠ .idle ∧ e.source = (s.binding b).terms.source ∧ e.stream = (s.binding b).terms.stream) ∧
    (∀ b b' : BindingNo, b ≠ b' → (s.binding b).state ≠ .idle → (s.binding b').state ≠ .idle →
      (s.binding b).clip ≠ (s.binding b').clip)

/-! ## What a command leaves alone -/

/-- The parts of the state that no work on a binding's frames and no notice touches: the node state, the options, house
time, the ports, the thinning register and the waiting commands. -/
def State.sameShell (s u : State) : Prop :=
  u.node = s.node ∧ u.fltn = s.fltn ∧ u.loaded = s.loaded ∧ u.opts = s.opts ∧ u.house = s.house ∧ u.ports = s.ports ∧
    u.browse = s.browse ∧ u.pending = s.pending

/-- Every binding record but one is as it was. -/
def State.othersSame (s u : State) (b : BindingNo) : Prop := ∀ b' : BindingNo, b' ≠ b → u.binding b' = s.binding b'

/-- The Store Port's own state but for its class queues and current values: the link and the transactions in flight. -/
def State.sameLink (s u : State) : Prop :=
  u.store.link = s.store.link ∧ u.store.trainingSince = s.store.trainingSince ∧ u.store.failures = s.store.failures ∧
    u.store.tags = s.store.tags ∧ u.store.pacing = s.store.pacing ∧ u.store.nextProbe = s.store.nextProbe

/-- Work on the recording of one binding: every other binding record, the sources, the link, the transactions in flight
and the parts of `sameShell` are as they were; that record, the frame table and the pool, the class queues, the notice
queue and the node counters may have moved. -/
def State.worksOn (s u : State) (b : BindingNo) : Prop :=
  s.sameShell u ∧ u.now = s.now ∧ u.sources = s.sources ∧ s.othersSame u b ∧ s.sameLink u

/-! ## What an abort leaves (R18, R149) -/

/-- The record of a binding that an abort has put in DRAINING (R18). -/
def Binding.afterAbort (r : Binding) (p : DonePending) : Binding :=
  { r with
    state := .draining
    reason := some .aborted
    donePending := p
    asm := { r.asm with base := none, slots := List.replicate 8 (.free none) }
    coord := { r.coord with takers := [], map := [], held := [], report := [] }
    acct := { r.acct with grade := 0 }
    undecided := [] }

/-- The record of a binding that has become IDLE: its clip, reason and counters alone (R20). -/
def Binding.afterIdle (r : Binding) : Binding := { clip := r.clip, reason := r.reason, counters := r.counters }

/-- The record of a binding that was drained as it was aborted: its DONE is pending, or, where it is suppressed, the
binding is IDLE (R19, R20). -/
def Binding.afterDrain (r : Binding) : DonePending → Binding
  | .no => r.afterAbort .yes
  | .yes => r.afterAbort .yes
  | .suppressed => (r.afterAbort .suppressed).afterIdle

/-- A transaction of a binding is in flight (R19). -/
def State.flies (s : State) (b : BindingNo) : Prop :=
  ∃ (g : Tag) (tx : Transaction), s.tag g = .busy tx ∧ tx.owner.binding? = some b

/-- A binding has been aborted: with a transaction in flight it stands in DRAINING, and with none it is drained already; no
job of it is queued, and each frame record of it is RELEASED with a user still to come (R18, R19, R64, R149). -/
def State.abortedIn (s u : State) (b : BindingNo) (p : DonePending) : Prop :=
  (s.flies b → u.binding b = (s.binding b).afterAbort p) ∧ (¬ s.flies b → u.binding b = (s.binding b).afterDrain p) ∧
    (∀ c : JobClass, ∀ j ∈ u.store.queue c, j.binding ≠ b) ∧
    ∀ f ∈ u.frames, f.binding = b → f.state = .released ∧ f.users ≠ 0

/-- Every binding that is not IDLE has been aborted with its DONE suppressed (R2). -/
def State.allAborted (s u : State) : Prop :=
  ∀ b : BindingNo,
    ((s.binding b).state = .idle → u.binding b = s.binding b) ∧
    ((s.binding b).state ≠ .idle → s.abortedIn u b .suppressed)

/-- What every bound field becomes when all bindings are aborted: the bindings with nothing in flight are IDLE at once, and
their entries are unbound (R20, R35). -/
def State.unbinding (s : State) (kept : Option BindingNo → Option BindingNo) : Prop :=
  kept none = none ∧ ∀ b : BindingNo,
    ((s.binding b).state ≠ .idle ∧ ¬ s.flies b → kept (some b) = none) ∧
    ((s.binding b).state = .idle ∨ s.flies b → kept (some b) = some b)

/-- The transactions in flight are as they were, but for whose they are counted (R149). -/
def State.sameFlight (s u : State) : Prop :=
  ∀ g : Tag,
    match s.tag g with
    | .busy tx => ∃ o : TxOwner, o.binding? = tx.owner.binding? ∧ u.tag g = .busy { tx with owner := o }
    | v => u.tag g = v

/-- The node has withdrawn to LISTENING (R33, R167, R179, R192). -/
def State.withdrawn (s u : State) : Prop :=
  u.node = .listening ∧ u.fltn = true ∧ s.allAborted u ∧ s.sameFlight u ∧
    (∀ p : PortNo, u.port p = { s.port p with line := .dark, good := 0, bad := 0 }) ∧
    (∃ kept, s.unbinding kept ∧ u.sources = s.sources.map (fun e => { e with ports := 0, bound := kept e.bound })) ∧
    u.lane = { s.lane with tx := .idle, attempts := 0, queue := [], nextPresence := none, lastAttempt := false } ∧
    u.store.link = s.store.link ∧ u.store.failures = s.store.failures ∧ u.opts = s.opts ∧ u.house = s.house ∧
    u.browse = s.browse ∧ u.counters = s.counters ∧ u.pending = s.pending

/-! ## Who speaks -/

/-- A notice of another station reaches a node in RUNNING (R173, R174). -/
def State.hearsFrom (s : State) (station : Station) : Prop := s.node = .running ∧ station ≠ s.opts.station

/-- A binding in ARMED, RECORDING or FINISHING holds a clip. -/
def State.records (s : State) (b : BindingNo) (clip : Clip) : Prop :=
  (s.binding b).state.active = true ∧ (s.binding b).clip = some clip

/-! ## Pieces at a port (R25, R26, R29, R30) -/

/-- A framed piece is bad: its CRC differs, or a header field is out of its range (R26). -/
def isBadPiece (p : Piece) : Prop :=
  p.crc ≠ crc32 (pieceHeader p ++ p.payload) ∨ p.source = 0 ∨ 3 < p.stream.toNat ∨ p.pieces.toNat = 0 ∨
    1024 < p.pieces.toNat ∨ p.pieces.toNat ≤ p.index.toNat ∨ p.base.toNat = 0 ∨ p.pieces.toNat < p.base.toNat ∨
    p.pieces.toNat - p.base.toNat < p.audio.toNat ∨ 15 < p.quality.toNat

/-- A command by which a bad piece reaches a port: a payload length of 0 or above 1024 (R25), or a framed piece that fails
its checks (R26). -/
def bringsBad (c : Instr) (t : Time) (p : PortNo) (order : List Nat) : Prop :=
  (∃ len : BitVec 16, (len.toNat = 0 ∨ 1024 < len.toNat) ∧ c = .payloadLengthBad t p len order) ∨
  (∃ piece : Piece, 1 ≤ piece.payload.length ∧ piece.payload.length ≤ 1024 ∧ isBadPiece piece ∧
    c = .pieceFramed t p piece order)

/-- A command by which a good piece reaches a port (R26). -/
def bringsGood (c : Instr) (t : Time) (p : PortNo) (piece : Piece) : Prop :=
  1 ≤ piece.payload.length ∧ piece.payload.length ≤ 1024 ∧ ¬ isBadPiece piece ∧
    ∃ order : List Nat, c = .pieceFramed t p piece order

/-- The next good piece of a port is admitted: it is LOCKED, or the piece is the sixteenth of its good run (R29, R30). -/
def Port.admits (q : Port) : Prop := q.line = .locked ∨ (q.line = .seeking ∧ 15 ≤ q.good)

/-- A port after a good piece that is admitted (R29, R30). -/
def Port.afterAdmitted (q : Port) : Port :=
  { q with line := .locked, good := if q.line = .seeking then 0 else q.good, bad := 0 }

/-- A lane whose queue has taken notices that may only join it, as many as it has places for (R167, R178). -/
def Lane.takes (l : Lane) (ns : List Notice) : Lane :=
  { l with
    queue := l.queue ++ ns.take (16 - l.queue.length)
    tx := if l.tx = .idle ∧ ns.take (16 - l.queue.length) ≠ [] then .defer else l.tx }

/-! ## The checks of a request -/

/-- ceil(L / D) × browse cells × 1024 (R8, code 14). -/
def Terms.browseBytes (t : Terms) : Nat := (t.clipLength + t.divisor - 1) / t.divisor * t.browseCells * 1024

/-- The check of R8 with a field code fails. -/
def checkFails (clip : Clip) (t : Terms) : Nat → Prop
  | 1 => clip = 0
  | 2 => t.hn = 0
  | 3 => t.hd = 0
  | 4 => t.fn = 0
  | 5 => t.fd = 0
  | 6 => t.clipLength = 0
  | 7 => t.slotCells = 0 ∨ 1024 < t.slotCells
  | 8 => 4 < t.audio
  | 9 => t.essenceBase % 1024 ≠ 0
  | 10 => t.indexBase % 1024 ≠ 0
  | 11 => ∃ base, t.browseBase = some base ∧ base % 1024 ≠ 0
  | 12 => 2 ^ 48 < t.essenceBase + t.clipLength * (t.slotCells * 1024)
  | 13 => 2 ^ 48 < t.indexBase + t.clipLength * 32
  | 14 => ∃ base, t.browseBase = some base ∧ 2 ^ 48 < base + t.browseBytes
  | 15 => t.essenceBase < t.indexBase + t.clipLength * 32 ∧
      t.indexBase < t.essenceBase + t.clipLength * (t.slotCells * 1024)
  | 16 => ∃ base, t.browseBase = some base ∧ t.essenceBase < base + t.browseBytes ∧
      base < t.essenceBase + t.clipLength * (t.slotCells * 1024)
  | 17 => ∃ base, t.browseBase = some base ∧ t.indexBase < base + t.browseBytes ∧
      base < t.indexBase + t.clipLength * 32
  | _ => False

/-! ## Counting and the window -/

/-- A counter one higher; it stops at 65535 (R23, R195). -/
def oneMore (n : Nat) : Nat := min 65535 (n + 1)

/-- A binding with its counters changed. -/
def Binding.counting (r : Binding) (f : BindingCounters → BindingCounters) : Binding := { r with counters := f r.counters }

/-- A slot that is CLOSED. -/
def Slot.isClosed : Slot → Bool
  | .closed _ => true
  | .free _ => false
  | .filling _ _ => false
  | .skipped _ _ => false

/-- The assembly state after the base has gone on past the CLOSED slots at the base (R46). -/
def Assembly.advanced (a : Assembly) : Assembly :=
  let k := (a.slots.takeWhile Slot.isClosed).length
  { a with base := a.base.map (fun n => n + BitVec.ofNat 32 k), slots := a.slots.drop k ++ List.replicate k (.free none) }

/-- The last eight outcomes of a history (R89). -/
def lastEight (h : List Closure) : List Closure := h.drop (h.length - 8)

/-- The delta of a frame count under the terms of a binding (R70). -/
def Binding.deltaOf (r : Binding) (n : FrameCount) : Nat := (n - r.terms.anchor).toNat

/-- The outcomes of closures that are gaps (R56). -/
def gapOutcomes : List Closure := [.incomplete, .unseen, .skipped .room, .skipped .oversize]

/-- The frame record of a FILLING slot. -/
def Slot.frame? : Slot → Option Nat
  | .free _ => none
  | .filling f _ => some f
  | .skipped _ _ => none
  | .closed _ => none

/-- A slot of a window from which one event closes several: `gone` closed, the window became `slots`, the frames of the
slots that closed are freed, and the INCOMPLETE and UNSEEN closures are counted (R54, R55, R57, R67). -/
def State.slotsClosed (s : State) (b : BindingNo) (gone slots : List Slot) (incomplete unseen : Nat) : State :=
  let freed := s.frames.filter (fun f => gone.any (fun x => x.frame? = some f.index))
  { s with
    frames := s.frames.filter (fun f => !gone.any (fun x => x.frame? = some f.index))
    freeCells := s.freeCells + (freed.map (fun (f : FrameRecord) => f.cells.length)).sum }.updBinding b (fun q =>
      { q with
        asm := { q.asm with slots := slots }
        counters := { q.counters with
          incomplete := min 65535 (q.counters.incomplete + incomplete), unseen := min 65535 (q.counters.unseen + unseen) } })

/-- Outcomes go to Frame Accounting one after another: each is the newest of the last eight, and the grade is recomputed
(R89, R93). -/
def State.outcomesTaken (s : State) (b : BindingNo) (os : List Closure) : State :=
  os.foldl (fun v o => (v.updBinding b (fun q =>
    { q with acct := { q.acct with history := lastEight (q.acct.history ++ [o]) } })).recomputeGrade b) s

/-- The frame counts of the slots that pass a test, each as a range of deltas; the base has delta `d` (R44, R56). -/
def rangesOf (d : Nat) (test : Slot → Bool) (slots : List Slot) : List (Nat × Nat) :=
  (slots.zipIdx.filter (fun x => test x.1)).map (fun x => (d + x.2, d + x.2 + 1))

/-- The held frames at or above E leave the list, and each is released without a write (R14). -/
def State.heldEnded (s : State) (b : BindingNo) (e : Nat) : State :=
  ((s.binding b).coord.held.filter (fun h => e ≤ h.position)).foldl (fun v h => v.releaseFrame h.frame)
    (s.updBinding b (fun q => { q with coord := { q.coord with held := q.coord.held.filter (fun h => h.position < e) } }))

/-- Every position of [a, b) lies in an extent of kind OWN-WRITTEN or PEER-WRITTEN (R48, R109). -/
def stored (m : List Extent) (a b : Nat) : Prop :=
  ∀ p, a ≤ p → p < b → kindAt m p = some .ownWritten ∨ kindAt m p = some .peerWritten

/-- Which held frames yield after insertions of kind OWN-WRITTEN or PEER-WRITTEN: those that a clipped range meets and whose
kept span, as far as it lies below E, is stored in the map as it then stands (R113). -/
def State.yieldsTo (s : State) (b : BindingNo) (ranges : List (Nat × Nat)) (yields : Held → Bool) : Prop :=
  ∀ h ∈ (s.binding b).coord.held, yields h = true ↔
    (∃ x ∈ ranges, x.1 < min x.2 (s.binding b).effEnd ∧ x.1 < h.stop ∧ h.position < min x.2 (s.binding b).effEnd) ∧
      stored (s.binding b).coord.map h.position (min h.stop (s.binding b).effEnd)

/-- The held frames that yield leave the list, and each is released and counted (R113). -/
def State.heldYielded (s : State) (b : BindingNo) (yields : Held → Bool) : State :=
  ((s.binding b).coord.held.filter yields).foldl
    (fun v h => (v.releaseFrame h.frame).updBinding b (fun q =>
      q.counting (fun c => { c with yields := oneMore c.yields })))
    (s.updBinding b (fun q => { q with coord := { q.coord with held := q.coord.held.filter (fun h => !yields h) } }))

/-- How far the own through advances over a map after an insertion: over every position that lies in an extent of another kind
than PRIMARY-GAP, up to the first that does not, or to E (R121). -/
def throughTo (m : List Extent) (e old new : Nat) : Prop :=
  old ≤ new ∧ new ≤ e ∧
    (∀ p, old ≤ p → p < new → kindAt m p ≠ none ∧ kindAt m p ≠ some .primaryGap) ∧
    (new = e ∨ kindAt m new = none ∨ kindAt m new = some .primaryGap)

/-- The samples of a channel of an audio payload as magnitudes: 24-bit two's complement, most significant byte first, the
channels interleaved, bytes after the last whole group ignored (R94, R95). -/
def magnitudesOf (channels k : Nat) (payload : List Byte) : List Nat :=
  (List.range (payload.length / (3 * channels))).map (fun g =>
    let v := field payload (3 * (channels * g + k)) 3
    if v < 2 ^ 23 then v else min (2 ^ 23 - 1) (2 ^ 24 - v))

/-- The measured feed period and the opening record after a frame opens (R59, R60). -/
def Assembly.opened (a : Assembly) (anchor count : FrameCount) (t : Time) : Assembly :=
  match a.opening with
  | none => { a with opening := some (count, t) }
  | some (n, t0) =>
    { a with
      period :=
        if (count - anchor).toNat = (n - anchor).toNat + 1 then
          ((a.period : Int) + Int.tdiv (max 1000 (min 200000 ((t - t0).toNat : Int)) - a.period) 8).toNat
        else a.period
      opening := if (n - anchor).toNat < (count - anchor).toNat then some (count, t) else some (n, t0) }

/-- The patience of a binding (R61). -/
def Assembly.patience (a : Assembly) (override : Option Nat) : Nat :=
  match override with
  | some p => p
  | none => max 2000 (min 1000000 (3 * a.period))

/-- The binding counters after an opening that skips its frame (R47). -/
def BindingCounters.skipped (c : BindingCounters) : SkipReason → BindingCounters
  | .drop => { c with drops := oneMore c.drops }
  | .covered => c
  | .beyond => c
  | .oversize => { c with oversize := oneMore c.oversize }
  | .room => { c with roomSkips := oneMore c.roomSkips }

/-- The tests of R47 that skip a frame without ending the recording, each with the tests before it failed. -/
def State.skipsAs (s : State) (b : BindingNo) (p : Piece) (reason : SkipReason) : Prop :=
  let r := s.binding b
  let d := r.deltaOf p.count
  let lo := startOf r.terms d
  let hi := startOf r.terms (d + 1)
  let noRoom := Config.poolCells / s.busyBindings.length ≤ s.holding b ∨ 2048 ≤ s.frames.length ∨ s.freeCells = 0
  match reason with
  | .drop => lo = hi
  | .covered => lo < hi ∧ lo < r.effEnd ∧ stored r.coord.map lo (min hi r.effEnd)
  | .oversize => lo < hi ∧ lo < r.effEnd ∧ ¬ stored r.coord.map lo (min hi r.effEnd) ∧ r.terms.slotCells < p.pieces.toNat
  | .room =>
    lo < hi ∧ lo < r.effEnd ∧ ¬ stored r.coord.map lo (min hi r.effEnd) ∧ p.pieces.toNat ≤ r.terms.slotCells ∧ noRoom
  | .beyond => False

/-- None of the tests of R47 holds: the frame is gathered. -/
def State.gathers (s : State) (b : BindingNo) (p : Piece) : Prop :=
  let r := s.binding b
  let d := r.deltaOf p.count
  let lo := startOf r.terms d
  let hi := startOf r.terms (d + 1)
  lo < hi ∧ lo < r.effEnd ∧ ¬ stored r.coord.map lo (min hi r.effEnd) ∧ p.pieces.toNat ≤ r.terms.slotCells ∧
    s.holding b < Config.poolCells / s.busyBindings.length ∧ s.frames.length < 2048 ∧ s.freeCells ≠ 0

/-! ## Takers and ranking (R99, R103) -/

/-- A taker ranks ahead of another: by grade, higher first, and by station number among equal grades, lower first. -/
def Taker.ahead (a b : Taker) : Prop := b.grade < a.grade ∨ (a.grade = b.grade ∧ a.station < b.station)

/-- What a TAKE makes of a taker list (R99). -/
def takerList (old new : List Taker) (e : Taker) : Prop :=
  ((∃ x ∈ old, x.station = e.station) → new = old.map (fun x => if x.station = e.station then e else x)) ∧
  ((∀ x ∈ old, x.station ≠ e.station) → old.length < 8 → new = old ++ [e]) ∧
  ((∀ x ∈ old, x.station ≠ e.station) → 8 ≤ old.length → ∀ w ∈ old, (∀ x ∈ old, x = w ∨ x.ahead w) →
    (e.ahead w → new = old.filter (fun x => x.station ≠ w.station) ++ [e]) ∧ (¬ e.ahead w → new = old))

/-- The grade that R92 gives a binding in ARMED, RECORDING or FINISHING with a quality code. -/
def Binding.gradeFor (r : Binding) (opts : Options) (link : LinkState) (q : Nat) : Nat :=
  if r.acct.silent ∨ link ≠ .up then 0
  else opts.grades.getD q 0 - (r.acct.history.filter (fun o => o ≠ .complete)).length

/-- The coordination state of a binding whose primary-in-view has become a station (R104). -/
def Coordination.viewing (c : Coordination) (own view : Station) : Coordination :=
  { c with primary := some view, role := if view = own then .primary else .shadow, primaryThrough := none }

/-- The essence job of a frame that is written live (R111, R128) or filled (R114). -/
def jobFor (cls : JobClass) (b : BindingNo) (f : FrameRecord) (effEnd : Nat) : Job :=
  { cls := cls, kind := .essence, binding := b, frame := f.index, start := f.spanStart, stop := min f.spanEnd effEnd,
    phase := .body, todo := List.range ((f.pieces + 63) / 64), left := (f.pieces + 63) / 64, retried := [] }

/-- A frame record sent to be written, with its users (R64). -/
def FrameRecord.sent (f : FrameRecord) (browse : Bool) : FrameRecord :=
  { f with state := .writing, users := if browse then 2 else 1 }

/-- A change of one record of the frame table. -/
def State.withFrame (s : State) (index : Nat) (g : FrameRecord → FrameRecord) : State :=
  { s with frames := s.frames.map (fun f => if f.index = index then g f else f) }

/-- A frame record is freed: its cells return to the pool (R67). -/
def State.freed (s : State) (f : FrameRecord) : State :=
  { s with frames := s.frames.filter (fun x => x.index ≠ f.index), freeCells := s.freeCells + f.cells.length }

/-! ## Requests (R4 to R10) -/

/-- A binding in ARMED or RECORDING holds this very request (R5). -/
def State.repeats (s : State) (req : Request) (b : BindingNo) : Prop :=
  ((s.binding b).state = .armed ∨ (s.binding b).state = .recording) ∧ (s.binding b).clip = some req.clip ∧
    (s.binding b).request = some req

/-- An entry is that of a request's source and stream, and heard on some port (R6). -/
def SourceEntry.heardFor (e : SourceEntry) (req : Request) : Prop :=
  e.source = req.source ∧ e.stream = req.stream ∧ e.ports ≠ 0

/-- A RECORD that is no repeat, of a heard source, whose clamped terms pass every check of R8. -/
def State.considers (s : State) (req : Request) (e : SourceEntry) : Prop :=
  (∀ b, ¬ s.repeats req b) ∧ s.entry? req.source req.stream = some e ∧ e.ports ≠ 0 ∧
    ∀ k, ¬ checkFails req.clip (clampRequest req) k

/-- CLIP-BUSY (R9). -/
def State.clipBusy (s : State) (clip : Clip) : Prop :=
  ∃ b : BindingNo, (s.binding b).state ≠ .idle ∧ (s.binding b).clip = some clip

/-- The record of a binding at its start (R2, R10, R60, R97). -/
def startedBinding (req : Request) (grade presence extentPeriod : Nat) (t : Time) (house : HouseCount) : Binding :=
  let terms := clampRequest req
  { state := .armed, clip := some req.clip, request := some req, terms := terms, stopPos := 16777215,
    effEnd := terms.clipLength, reason := none, donePending := .no, counters := {}
    asm :=
      { base := none, slots := List.replicate 8 (.free none), opening := none,
        period := max 1000 (min 200000 (1000000 * terms.fd / terms.fn)), lastArrival := none, takenAt := t }
    acct := { committed := terms.cbs, excess := terms.ebs, history := [], lastQuality := none, silent := false,
              grade := grade }
    coord :=
      { role := .settling, settle := some (msTime t + ms presence), primary := none, takers := [], map := [],
        held := [], report := [], ownThrough := 0, primaryThrough := none, nextTake := msTime t + ms presence,
        nextExtent := house + BitVec.ofNat 32 extentPeriod, lastThrough := none }
    ring := Vector.replicate 32 none, undecided := [] }

/-- What an immediate stop makes of a slot (R15). -/
def Slot.stopped : Slot → Slot
  | .free _ => .closed .unseen
  | .filling _ _ => .closed (.skipped .beyond)
  | .skipped _ _ => .closed (.skipped .beyond)
  | .closed o => .closed o

/-- A slot that is FILLING or SKIPPED. -/
def Slot.open : Slot → Prop
  | .free _ => False
  | .filling _ _ => True
  | .skipped _ _ => True
  | .closed _ => False

/-- The five conditions of quietness (R17). -/
def State.isQuiet (s : State) (b : BindingNo) : Prop :=
  (∀ x ∈ (s.binding b).asm.slots, ¬ x.open) ∧ (s.binding b).coord.held = [] ∧
    (∀ c : JobClass, ∀ j ∈ s.store.queue c, j.binding ≠ b) ∧ ¬ s.flies b ∧ (s.binding b).coord.report = [] ∧
    (s.binding b).undecided = []

/-- The queue can accept a DONE (R20): it is not full, or it holds a SOURCE or PRESENCE that is not in SENDING. -/
def State.acceptsDone (s : State) : Prop :=
  s.lane.queue.length < 16 ∨
    ∃ n ∈ (if s.lane.tx = .sending then s.lane.queue.drop 1 else s.lane.queue), n.evictable = true

/-- The state in which a binding has become IDLE (R20). -/
def State.idled (s : State) (b : BindingNo) : State :=
  { s with
    sources := s.sources.map (fun (e : SourceEntry) => { e with bound := if e.bound = some b then none else e.bound }) }.updBinding b
    Binding.afterIdle

/-! ## The lane and the store -/

/-- A queued notice that a new one replaces: a TAKE for its clip, a PRESENCE (R176). -/
def Notice.sameSubject : Notice → Notice → Prop
  | .take c .., .take d .. => c = d
  | .presence _, .presence _ => True
  | _, _ => False

/-- A queued EXTENT for a clip (R177). -/
def Notice.extentFor : Notice → Clip → Prop
  | .extent c .., d => c = d
  | _, _ => False

/-- No queued notice that is not in SENDING is replaced by a new one or takes it in: none is its subject (R176), and the newest
EXTENT for the clip of an EXTENT with runs, if there is one, holds six (R177). -/
def Notice.needsPlace (n : Notice) (waiting : List Notice) : Prop :=
  (∀ q ∈ waiting, ¬ q.sameSubject n) ∧
    ∀ clip role th runs, n = .extent clip role th runs → ∀ pre role' th' queued post,
      waiting = pre ++ .extent clip role' th' queued :: post → (∀ x ∈ post, ¬ x.extentFor clip) →
        runs ≠ [] ∧ 6 ≤ queued.length

/-- A notice that needs a place joins the tail of the queue, joins it over an evicted one, or is dropped (R167, R178). -/
def State.placesTo (s : State) (n : Notice) (u : State) : Prop :=
  let l := s.lane
  let locked := if l.tx = .sending then l.queue.take 1 else []
  (l.queue.length < 16 → u = { s with lane := { l with
    queue := l.queue ++ [n], tx := if l.tx = .idle then .defer else l.tx } }) ∧
  (16 ≤ l.queue.length → n.evictable = true → u = s) ∧
  (16 ≤ l.queue.length → n.evictable = false → (∀ q ∈ l.queue.drop locked.length, q.evictable = false) →
    u = { s with counters := { s.counters with queueDrops := oneMore s.counters.queueDrops } }) ∧
  (16 ≤ l.queue.length → n.evictable = false → ∀ pre old post,
    l.queue = locked ++ pre ++ old :: post → old.evictable = true → (∀ q ∈ pre, q.evictable = false) →
    u = { s with lane := { l with
      queue := locked ++ pre ++ post ++ [n]
      attempts := if locked = [] ∧ pre = [] then 0 else l.attempts
      tx := if locked = [] ∧ pre = [] ∧ l.tx ≠ .sending then .defer
        else if l.tx = .idle then .defer else l.tx } })

/-- The runs of a new EXTENT, in their own order, taken into those of a queued one: a run that begins where the last run ends
and is of its kind joins it, any other is appended while there are fewer than six, and from the first that finds no place on
the runs are left over (R177). -/
def mergesTo (queued : List Run) : List Run → List Run → List Run → Prop
  | [], merged, rest => merged = queued ∧ rest = []
  | r :: rs, merged, rest =>
    (∀ pre l, queued = pre ++ [l] → r.start = l.stop → r.kind = l.kind →
      mergesTo (pre ++ [⟨l.start, r.stop, l.kind⟩]) rs merged rest) ∧
    ((∀ pre l, queued = pre ++ [l] → ¬ (r.start = l.stop ∧ r.kind = l.kind)) →
      (queued.length < 6 → mergesTo (queued ++ [r]) rs merged rest) ∧
      (6 ≤ queued.length → merged = queued ∧ rest = r :: rs))

/-- One step of a Galois register with feedback B400h (R159, R168). -/
def galois (r : BitVec 16) : BitVec 16 := if r.getLsbD 0 then (r >>> 1) ^^^ 0xB400#16 else r >>> 1

/-- The lane after its head notice has left the queue (R169, R170). -/
def Lane.headGone (l : Lane) : Lane :=
  { l with queue := l.queue.tail, attempts := 0, lastAttempt := false,
           tx := if l.queue.tail = [] then .idle else .defer }

/-- LIVE, FILL, BROWSE, the lower class first (R136). -/
def JobClass.rank : JobClass → Nat
  | .live => 0
  | .fill => 1
  | .browse => 2

/-- The weight of a class, where it is eligible (R136). -/
def State.weightOf (s : State) (c : JobClass) : Int := if s.eligible c then (s.opts.weight c : Int) else 0

/-- A class wins a grant: among the eligible classes the lowest in strict priority (R137), else the one of greatest
current value after the weights are added, the lower one among equals (R136). -/
def State.winsGrant (s : State) (c : JobClass) : Prop :=
  s.eligible c = true ∧ ∀ d : JobClass, s.eligible d = true →
    if s.opts.strict then c.rank ≤ d.rank
    else
      s.store.current d + s.weightOf d ≤ s.store.current c + s.weightOf c ∧
        (s.store.current d + s.weightOf d = s.store.current c + s.weightOf c → c.rank ≤ d.rank)

/-- The address of a transaction of a job (R128, R129, R154, R161). -/
def Job.addressOf (j : Job) (t : Terms) (i : Nat) : Nat :=
  match j.kind, j.phase with
  | .essence, .body => t.essenceBase + j.start * t.slotCells * 1024 + 64 * i * 1024
  | .essence, .records => t.indexBase + (j.start + 2048 * i) * 32
  | .browse, .body => t.browseBase.getD 0 + j.start * t.browseCells * 1024 + 1024 + 64 * i * 1024
  | .browse, .records => t.browseBase.getD 0 + j.start * t.browseCells * 1024

/-! ## Records in storage (section 11.5) -/

/-- A record of 32 bytes with the fields of a table: offset, length and value, the most significant byte first, and every
byte that no field occupies 0 (R197, R201). -/
def isRecord (fields : List (Nat × Nat × Nat)) (bytes : List Byte) : Prop :=
  bytes.length = 32 ∧ (∀ x ∈ fields, field bytes x.1 x.2.1 = x.2.2 % 256 ^ x.2.1) ∧
    ∀ k < 32, (∀ x ∈ fields, k < x.1 ∨ x.1 + x.2.1 ≤ k) → bytes[k]? = some 0

/-- The peaks of a FRAME or browse record: two bytes for each channel from offset 24 on. -/
def peakFields (peaks : Vector Nat 4) : List (Nat × Nat × Nat) :=
  [(24, 2, peaks[0]), (26, 2, peaks[1]), (28, 2, peaks[2]), (30, 2, peaks[3])]

/-- The fields of the FRAME record of a frame (R130). -/
def frameFields (t : Terms) (f : FrameRecord) (quality : BitVec 8) : List (Nat × Nat × Nat) :=
  [(0, 1, 0x5A), (1, 1, t.audio), (2, 1, quality.toNat), (3, 2, f.pieces), (5, 2, f.base), (7, 2, f.audio),
    (9, 3, f.spanStart), (12, 4, f.count.toNat), (16, 4, (f.count - t.anchor).toNat), (20, 3, f.byteTotal)] ++
    peakFields f.peaks

/-- The fields of the REPEAT record of a position of a frame stored at `s` (R130). -/
def repeatFields (t : Terms) (s p : Nat) : List (Nat × Nat × Nat) :=
  [(0, 1, 0xA5), (4, 3, p), (8, 3, s), (12, 6, t.essenceBase + s * t.slotCells * 1024)]

/-- The fields of the browse record of a frame, with the byte total of its base layer (R162). -/
def browseFields (t : Terms) (f : FrameRecord) (quality : BitVec 8) (slot total : Nat) : List (Nat × Nat × Nat) :=
  [(0, 1, 0x3C), (1, 1, t.audio), (2, 1, quality.toNat), (3, 1, f.base), (4, 3, slot), (7, 3, f.spanStart),
    (10, 4, f.count.toNat), (14, 3, total)] ++ peakFields f.peaks

/-- The data of a transaction of a job whose frame has all its pieces, each padded to 1024 bytes (R128, R129, R161, R162). -/
def Job.carries (j : Job) (t : Terms) (f : FrameRecord) (payload : Nat → List Byte) (q : BitVec 8) (i : Nat)
    (data : List Byte) : Prop :=
  let pieces (n : Nat) := (List.range (min 64 (n - 64 * i))).flatMap (fun k =>
    payload (64 * i + k) ++ List.replicate (1024 - (payload (64 * i + k)).length) 0)
  match j.kind, j.phase with
  | .essence, .body => data = pieces f.pieces
  | .essence, .records =>
    ∃ records : List (List Byte), data = records.flatten ∧ records.length = min 2048 (j.stop - (j.start + 2048 * i)) ∧
      ∀ (k : Nat) (bytes : List Byte), records[k]? = some bytes →
        isRecord (if j.start + 2048 * i + k = f.spanStart then frameFields t f q
          else repeatFields t f.spanStart (j.start + 2048 * i + k)) bytes
  | .browse, .body => data = pieces f.base
  | .browse, .records =>
    isRecord (browseFields t f q j.start ((List.range f.base).map (fun k => (payload k).length)).sum) data

/-! ## Failures in the store -/

/-- No transaction is in flight. -/
def State.flightless (s : State) : Prop := ∀ (g : Tag) (tx : Transaction), s.tag g ≠ .busy tx

/-- The state with one tag set and the consecutive failure count at a value. -/
def State.tagged (s : State) (g : Tag) (v : TagState) (failures : Nat) : State :=
  { s with store := { s.store with tags := s.store.tags.set g v, failures := failures } }

/-- A job has left its class queue (R132, R141). -/
def State.jobGone (s : State) (j : Job) : State :=
  let rest := (s.store.queue j.cls).filter (fun x => decide ¬ (x.kind = j.kind ∧ x.frame = j.frame))
  { s with store := s.store.setQueue j.cls rest }

/-- A job in its class queue has changed. -/
def State.jobNow (s : State) (j : Job) (f : Job → Job) : State :=
  let queue := (s.store.queue j.cls).map (fun x => if x.kind = j.kind ∧ x.frame = j.frame then f x else x)
  { s with store := s.store.setQueue j.cls queue }

/-- A count that is made only in ARMED, RECORDING and FINISHING (R23). -/
def State.counted (s : State) (b : BindingNo) (f : BindingCounters → BindingCounters) : State :=
  if (s.binding b).state.active = true then s.updBinding b (fun q => q.counting f) else s

/-- A job fails: the positions of an essence job are an own gap, a browse job leaves a hole, it is counted, and its user is
given back (R143, R163). -/
def State.jobFailed (s : State) (j : Job) : State :=
  match j.kind with
  | .essence =>
    ((s.ownGap j.binding j.start j.stop).counted j.binding
      (fun c => { c with failedJobs := oneMore c.failedJobs })).giveBack j.frame
  | .browse => (s.counted j.binding (fun c => { c with browseHoles := oneMore c.browseHoles })).giveBack j.frame

/-- The transactions in flight of a job that has failed go on, with their outcomes ignored (R141). -/
def TagState.ended (g : TagState) (kind : JobKind) (frame : Nat) : TagState :=
  match g with
  | .busy tx =>
    match tx.owner with
    | .job k b f _ => if k = kind ∧ f = frame then .busy { tx with owner := .ended b } else g
    | _ => g
  | _ => g

/-- Every tag changed. -/
def State.tagsNow (s : State) (f : TagState → TagState) : State :=
  { s with store := { s.store with tags := s.store.tags.map f } }

/-- A probe in flight no longer decides the link's state. -/
def TagState.unprobed (g : TagState) : TagState :=
  match g with
  | .busy tx =>
    match tx.owner with
    | .probe _ => .busy { tx with owner := .probe false }
    | _ => g
  | _ => g

/-- What the link's leaving UP does to the class queues: they are emptied with their current values and the pacing hold, and
every job that was queued fails, LIVE first and the oldest first (R146). -/
def State.queuesFailed (s : State) : State :=
  let jobs := s.store.live ++ s.store.fill ++ s.store.browse
  let v := { s with store := { s.store with
    live := [], fill := [], browse := [], currentLive := 0, currentFill := 0, currentBrowse := 0, pacing := none } }
  jobs.foldl (fun x j => x.jobFailed j) (jobs.foldl (fun x j => x.tagsNow (fun g => g.ended j.kind j.frame)) v)

/-- Every binding in ARMED, RECORDING or FINISHING is regraded, in some order (R93). -/
def State.regradedTo (s u : State) : Prop :=
  ∃ l : List BindingNo, l.Perm (allBindings.filter (fun b => (s.binding b).state.active)) ∧
    u = l.foldl (fun v b => v.recomputeGrade b) s

/-- A transaction of the removed job with a kind and frame is in flight (R149). -/
def State.removedFlies (s : State) (kind : JobKind) (frame : Nat) : Prop :=
  ∃ (g : Tag) (tx : Transaction) (b : BindingNo), s.tag g = .busy tx ∧ tx.owner = .removed kind b frame

/-- The consecutive failure count at a value. -/
def State.failuresAt (s : State) (n : Nat) : State := { s with store := { s.store with failures := n } }

/-- A transaction that is no probe fails, from the state in which its tag has been given up to `u`: it is counted; the job it
belongs to fails with it, or the user of a removed job is given back at its last transaction; the third failure in a row puts
a link that is UP in FAILED (R141, R143, R145 to R147, R149). -/
def State.failsTo (s u : State) (owner : TxOwner) : Prop :=
  let v : State := { s with counters := { s.counters with failed := oneMore s.counters.failed } }
  ∃ x y : State,
    (∀ kind b frame i, owner = .job kind b frame i →
      (∀ j, s.store.jobOf kind frame = some j →
        x = ((v.tagsNow (fun g => g.ended j.kind j.frame)).jobGone j).jobFailed j) ∧
      (s.store.jobOf kind frame = none → x = v)) ∧
    (∀ b, owner = .ended b → x = v) ∧
    (∀ kind b frame, owner = .removed kind b frame →
      (s.removedFlies kind frame → x = v) ∧ (¬ s.removedFlies kind frame → x = v.giveBack frame)) ∧
    y = x.failuresAt (min 3 (s.store.failures + 1)) ∧
    (s.store.failures < 2 ∨ s.store.link ≠ .up → u = y) ∧
    (2 ≤ s.store.failures → s.store.link = .up →
      State.regradedTo
        ({ y with
          store := { y.store with link := .failed, nextProbe := some (msTime s.now + ms 100) }
          counters := { y.counters with linkFailures := oneMore s.counters.linkFailures } } : State).queuesFailed u)

/-- An ignored RETRY: a failed transaction where the transaction had been retried once, and else nothing (R141, R145; log
entry 18). -/
def State.retryIgnored (s : State) (retried : Bool) : State :=
  { s with counters :=
      { s.counters with failed := if retried then oneMore s.counters.failed else s.counters.failed } }

/-- The link has left UP for a state: the queues are empty, the current values 0 and the pacing hold over (R146). -/
def Store.downTo (st : Store) (link : LinkState) : Prop :=
  st.link = link ∧ (∀ c : JobClass, st.queue c = [] ∧ st.current c = 0) ∧ st.pacing = none

end Sys2Proof.Machine
end

