-- ==== Sys2Proof/WellFormed.lean ====
section
/-! DEFINITION. Which commands are well formed: those whose operands can stand in the event that the row names. exec
gives every other command a meaning as well (log entry 2). -/

namespace Sys2Proof

/-- A payload length that a receiver can frame (R25). -/
def lengthFramed (len : Nat) : Bool := decide (1 ≤ len ∧ len ≤ Config.cellBytes)

/-- Bytes heard on the lane from a sync pattern on (R171). Whether a frame is delivered rests on its checks, on its kind
and on whether its station is the node's own (R171 to R174), which only the state tells. -/
def heardFrame (bytes : List Byte) : Bool :=
  match Machine.hear bytes with
  | .noFrame => false
  | .fragment => true
  | .crcError => true
  | .framingError => true
  | .intact _ _ _ => true

/-- The well-formed commands. -/
def Instr.wf : Instr → Bool
  | .coldReset => true
  | .optionLoad _ _ => true
  | .signalPresent _ _ => true
  | .signalLost _ _ _ => true
  | .payloadLengthBad _ _ len _ => !lengthFramed len.toNat
  | .pieceFramed _ _ p _ => lengthFramed p.payload.length
  | .slotDeadline _ _ _ => true
  | .meterCredit t => decide (t.toNat % 1000 = 0)
  | .bindingSilent t _ => decide (t.toNat % 1000 = 0)
  | .sourceAgeOut t _ _ => decide (t.toNat % 1000 = 0)
  | .takerExpiry t _ _ => decide (t.toNat % 1000 = 0)
  | .occupancyUpdate t => decide (t.toNat % 1000 = 0)
  | .settleDeadline _ _ => true
  | .takeTime _ _ => true
  | .holdDeadline _ _ => true
  | .extentTime _ _ => true
  | .hrefPulse _ => true
  | .freeRunEntry _ => true
  | .internalHouseFrame _ => true
  | .record _ _ _ _ => true
  | .stop _ _ _ p => decide (p.toNat ≠ Config.noStop)
  | .immediateStop _ _ _ => true
  | .abort _ _ _ => true
  | .drainEnd _ _ => true
  | .bindingQuiet _ _ => true
  | .doneQueued _ _ => true
  | .queryBinding _ _ _ clip => decide (clip ≠ 0)
  | .queryNode _ _ _ => true
  | .restart _ _ _ => true
  | .restartEnd _ => true
  | .take _ _ _ _ _ _ => true
  | .extent _ _ _ _ _ runs => decide (runs.length ≤ Config.noticeRuns)
  | .done _ _ _ _ _ => true
  | .noticeNotDelivered _ bytes => heardFrame bytes
  | .idleGap _ => true
  | .holdoffEnd _ => true
  | .holdoffGivenUp _ => true
  | .noticeSent _ => true
  | .collision _ => true
  | .presenceTime _ => true
  | .browseDecision _ _ => true
  | .grant _ _ => true
  | .pacingHoldEnd _ => true
  | .storeCompletion _ _ _ _ => true
  | .storeTimeout _ _ _ => true
  | .tagRetirementEnd _ _ => true
  | .srdynHigh _ _ => true
  | .linkUp _ _ => true
  | .probeTime _ _ => true

end Sys2Proof
end

