-- ==== Sys2Proof/Certificates/Slice0/Obligations.lean ====
section
/-! DEFINITION. The statements for the provers, in the order of OBLIGATIONS.json. Unless it says otherwise a statement is
about every state, and its conclusion is the next state that exec gives. Times are compared as log entry 4 says. -/

open Sys2Proof Sys2Proof.Machine

/-! ## Start-up and options -/

/-- COLD_RESET: the values of R2, R34, R35, R68, R151, R152, R179, R184, R188 and R195. That the waiting commands stay is
the model's choice (log entry 6). -/
def Obligations.ColdResetValues : Prop :=
  ∀ s : State, ∃ u, exec .coldReset s = .next u ∧ u.pending = s.pending ∧
    u.node = .loading ∧ u.fltn = false ∧ u.now = 0 ∧
    (∀ b : BindingNo, (u.binding b).state = .idle ∧ (u.binding b).clip = none ∧ (u.binding b).reason = none ∧
      (u.binding b).donePending = .no ∧ (u.binding b).counters.list = List.replicate 21 0 ∧
      (∀ k : Fin 32, (u.binding b).ring[k] = none)) ∧
    (∀ p : PortNo, (u.port p).line = .dark ∧ (u.port p).badPieces = 0 ∧ (u.port p).lockLosses = 0) ∧
    u.sources = [] ∧ u.freeCells = 16384 ∧ u.frames = [] ∧
    u.store.link = .training ∧ u.store.failures = 0 ∧ (∀ c, u.store.queue c = [] ∧ u.store.current c = 0) ∧
    (∀ g : Tag, u.tag g = .free) ∧ u.store.pacing = none ∧ u.store.nextProbe = none ∧
    u.browse.occupancy = 0 ∧ u.lane.queue = [] ∧ u.lane.tx = .idle ∧ u.lane.attempts = 0 ∧
    u.house.state = .freeRun ∧ u.house.counter = 0 ∧ u.house.byPulse = false ∧
    u.counters =
      { learnDrop := 0, reportsLost := 0, retries := 0, failed := 0, timeouts := 0, stray := 0, linkFailures := 0,
        sent := 0, collisions := 0, abandoned := 0, queueDrops := 0, crcErrors := 0, framingErrors := 0, restarts := 0,
        referenceLoss := 0 }

/-- OPTION_LOAD of a valid record (R159, R168, R180, R184, R189): the node runs under its options, house time takes the
nominal period, both registers are seeded from the station number, each enabled port that sees signal hunts, and a
PRESENCE of the new state waits. Nothing else changes. The model's choices: the ports hunt by a flag that remembers the signal
(log entry 25) and before the PRESENCE is offered (log entry 41), and the next presence time counts from the start of the
millisecond (log entry 4). -/
def Obligations.OptionLoadRuns : Prop :=
  ∀ (t : Time) (bytes : Vector Byte 71) (s : State),
    s.node = .loading → s.lane.queue = [] → s.lane.tx = .idle →
    (crc16 (bytes.toList.take 69)).toNat = field bytes.toList 69 2 → field bytes.toList 0 1 % 32 ≠ 0 →
    ∃ u, exec (.optionLoad t bytes) s = .next u ∧
      u = { s with
        now := t
        node := .running
        loaded := true
        opts := readOptions bytes.toList
        house := { s.house with period := max 10000 (min 100000 (field bytes.toList 17 4)), lastFrame := t }
        browse := { s.browse with lfsr := 0xACE1 ^^^ BitVec.ofNat 16 (field bytes.toList 0 1 % 32 * 0x0101) }
        lane := { s.lane with
          lfsr := 0x1D0F ^^^ BitVec.ofNat 16 (field bytes.toList 0 1 % 32 * 0x0101)
          queue := [.presence u.presence]
          tx := .defer
          nextPresence := some (msTime t + ms (readOptions bytes.toList).presence) }
        ports := u.ports } ∧
      ∀ p : PortNo, u.port p =
        if (s.port p).signal = true ∧ (BitVec.ofNat 8 (field bytes.toList 1 1)).getLsbD p.val = true then
          { s.port p with line := .seeking, good := 0, bad := 0 }
        else s.port p

/-- The clamps of R190, field by field, on every record. -/
def Obligations.OptionsAreClamped : Prop :=
  ∀ bytes : List Byte,
    let v := field bytes
    let o := readOptions bytes
    o.station.val = v 0 1 % 32 ∧ o.enables.toNat = v 1 1 % 256 ∧
    o.ageTimeout = (if v 2 2 = 0 then 1 else if 60 < v 2 2 then 60 else v 2 2) ∧
    o.storeTimeout = (if v 4 1 = 0 then 1 else if 255 < v 4 1 then 255 else v 4 1) ∧
    o.weightLive = (if v 5 1 = 0 then 1 else if 15 < v 5 1 then 15 else v 5 1) ∧
    o.weightFill = (if v 6 1 = 0 then 1 else if 15 < v 6 1 then 15 else v 6 1) ∧
    o.weightBrowse = (if v 7 1 = 0 then 1 else if 15 < v 7 1 then 15 else v 7 1) ∧
    o.strict = (if v 8 1 = 0 then false else true) ∧ o.pace = v 9 1 ∧
    o.window = (if v 10 1 = 0 then 1 else if 250 < v 10 1 then 250 else v 10 1) ∧
    o.margin = (if 7 < v 11 1 then 7 else v 11 1) ∧
    o.takerTimeout = (if v 12 2 < 100 then 100 else if 5000 < v 12 2 then 5000 else v 12 2) ∧
    o.presence = (if v 14 2 < 50 then 50 else if 2000 < v 14 2 then 2000 else v 14 2) ∧
    o.extentPeriod = (if v 16 1 = 0 then 1 else if 50 < v 16 1 then 50 else v 16 1) ∧
    o.housePeriod = (if v 17 4 < 10000 then 10000 else if 100000 < v 17 4 then 100000 else v 17 4) ∧
    (∀ i < 16, o.grades[i]? = some (if 7 < v (21 + i) 1 then 7 else v (21 + i) 1)) ∧
    (∀ i < 16, o.thinning[i]? = some (if 1023 < v (37 + 2 * i) 2 then 1023 else v (37 + 2 * i) 2)) ∧
    o.grades.length = 16 ∧ o.thinning.length = 16

/-! ## Feed ports and the Source Table -/

/-- SIGNAL_PRESENT, SIGNAL_LOST on a port that is not LOCKED (R28, R32, R33), and the runs of a port that stays out of
LOCKED or in it (R26, R27, R29, R30, R33). An admitted piece goes no further outside RUNNING. That the signal is remembered
in every node state is the model's reading (log entry 25). -/
def Obligations.PortsFollowTheirLines : Prop :=
  (∀ (t : Time) (p : PortNo) (order : List Nat) (s : State),
     (exec (.signalPresent t p) s = .next { s with
       now := t
       ports := s.ports.set p (
         if (s.port p).line = .dark ∧ s.opts.enables.getLsbD p.val = true ∧ (s.node = .running ∨ s.node = .restarting) then
           { s.port p with line := .seeking, good := 0, bad := 0, signal := true }
         else { s.port p with signal := true }) }) ∧
     ((s.port p).line ≠ .locked → exec (.signalLost t p order) s = .next { s with
       now := t
       ports := s.ports.set p { s.port p with line := .dark, good := 0, bad := 0, signal := false } })) ∧
  (∀ (c : Instr) (t : Time) (p : PortNo) (s : State),
     (∀ order, bringsBad c t p order →
       ((s.port p).line = .dark → exec c s = .next { s with now := t }) ∧
       ((s.port p).line = .seeking → exec c s = .next { s with
         now := t
         ports := s.ports.set p { s.port p with good := 0, badPieces := min 65535 ((s.port p).badPieces + 1) } }) ∧
       ((s.port p).line = .locked → (s.port p).bad < 7 → exec c s = .next { s with
         now := t
         ports := s.ports.set p { s.port p with
           bad := (s.port p).bad + 1, badPieces := min 65535 ((s.port p).badPieces + 1) } })) ∧
     (∀ piece, bringsGood c t p piece →
       ((s.port p).line = .dark → exec c s = .next { s with now := t }) ∧
       ((s.port p).line = .seeking → (s.port p).good < 15 → exec c s = .next { s with
         now := t
         ports := s.ports.set p { s.port p with good := (s.port p).good + 1 } }) ∧
       ((s.port p).admits → s.node ≠ .running → exec c s = .next { s with
         now := t
         ports := s.ports.set p (s.port p).afterAdmitted })))

/-- A port leaves LOCKED: its signal is lost (R28), or a bad piece brings its bad run to 8 (R30). It leaves every
ports-heard set (R31), and in RUNNING one SOURCE of event PORTS is offered for each entry that held it, in an order that the
spec leaves open (R41). Nothing else changes. -/
def Obligations.LockLost : Prop :=
  ∀ (c : Instr) (t : Time) (p : PortNo) (order : List Nat) (s : State) (q : Port),
    (s.port p).line = .locked →
    (c = .signalLost t p order ∧
        q = { s.port p with
          line := .dark, good := 0, bad := 0, signal := false,
          lockLosses := min 65535 ((s.port p).lockLosses + 1) } ∨
      bringsBad c t p order ∧ 7 ≤ (s.port p).bad ∧
        q = { s.port p with
          line := .seeking, good := 0, bad := 0, badPieces := min 65535 ((s.port p).badPieces + 1),
          lockLosses := min 65535 ((s.port p).lockLosses + 1) }) →
    ∃ l : List SourceEntry,
      l.Perm ((s.sources.filter (fun e => e.ports.getLsbD p.val)).map
        (fun e => { e with ports := e.ports &&& ~~~ (1#8 <<< p.val) })) ∧
      exec c s = .next { s with
        now := t
        ports := s.ports.set p q
        sources := s.sources.map (fun e => { e with ports := e.ports &&& ~~~ (1#8 <<< p.val) })
        lane :=
          if s.node = .running then
            s.lane.takes (l.map (fun e =>
              .source .ports e.source e.stream e.ports e.lastCount e.quality (decide (e.bound ≠ none))))
          else s.lane }

/-- An admitted piece of a source that has no entry (R38): it is learned, and a SOURCE of event NEW is offered; or the table
is full and the piece is counted. -/
def Obligations.PieceLearned : Prop :=
  ∀ (c : Instr) (t : Time) (p : PortNo) (piece : Piece) (s : State),
    bringsGood c t p piece → (s.port p).admits → s.node = .running →
    (∀ e ∈ s.sources, ¬ (e.source = piece.source ∧ e.stream = piece.stream)) →
    (s.sources.length < 64 → exec c s = .next { s with
      now := t
      ports := s.ports.set p (s.port p).afterAdmitted
      sources := s.sources ++
        [{ source := piece.source, stream := piece.stream, ports := 1#8 <<< p.val, lastCount := piece.count,
           lastHeard := t, quality := piece.quality, bound := none }]
      lane := s.lane.takes [.source .new piece.source piece.stream (1#8 <<< p.val) piece.count piece.quality false] }) ∧
    (64 ≤ s.sources.length → exec c s = .next { s with
      now := t
      ports := s.ports.set p (s.port p).afterAdmitted
      counters := { s.counters with learnDrop := min 65535 (s.counters.learnDrop + 1) } })

/-- An admitted piece of a source that has an entry (R36, R37, R40): the entry is updated, a port that joins its set is
announced, and the piece is routed to the bound binding, whose grade follows a changed quality code (R93). That the notice
carries the frame count and the quality code after the piece (log entry 33), and that the 1000 ms of R37 are taken in
microseconds (log entry 4), are the model's readings. -/
def Obligations.KnownSourcePiece : Prop :=
  ∀ (c : Instr) (t : Time) (p : PortNo) (piece : Piece) (s : State) (e e' : SourceEntry) (v : State),
    bringsGood c t p piece → (s.port p).admits → s.node = .running →
    s.entry? piece.source piece.stream = some e →
    e' = { e with
      ports := e.ports ||| (1#8 <<< p.val)
      lastHeard := t
      lastCount :=
        if (1 ≤ (piece.count - e.lastCount).toNat ∧ (piece.count - e.lastCount).toNat < 2 ^ 31) ∨
            1000000 ≤ (t - e.lastHeard).toNat then piece.count
        else e.lastCount
      quality := if piece.index = 0 then piece.quality else e.quality } →
    v = { s with
      now := t
      ports := s.ports.set p (s.port p).afterAdmitted
      sources := s.sources.map (fun x => if x.source = piece.source ∧ x.stream = piece.stream then e' else x)
      lane :=
        if e.ports.getLsbD p.val then s.lane
        else
          s.lane.takes
            [.source .ports e'.source e'.stream e'.ports e'.lastCount e'.quality (decide (e'.bound ≠ none))] } →
    exec c s = .next (
      match e.bound with
      | none => v
      | some b => (if e'.quality = e.quality then v else v.recomputeGrade b).routePiece b piece)

/-- SOURCE_AGE_OUT (R35, R39, R41, R183): in every node state but LISTENING an unbound entry whose last heard millisecond
lies the age timeout in the past is removed, and in RUNNING a SOURCE of event GONE is offered; a bound entry, a younger one and
any entry in LISTENING stays. That a command before its time changes nothing is the model's choice (log entry 2). -/
def Obligations.SourceAgesOut : Prop :=
  ∀ (t : Time) (source : SourceId) (stream : BitVec 8) (s : State) (e : SourceEntry) (heard : Time),
    t.toNat % 1000 = 0 → s.entry? source stream = some e →
    heard = BitVec.ofNat 48 (e.lastHeard.toNat / 1000 * 1000) →
    (s.node ≠ .listening ∧ e.bound = none ∧ s.opts.ageTimeout * 1000000 ≤ (t - heard).toNat →
      exec (.sourceAgeOut t source stream) s = .next { s with
        now := t
        sources := s.sources.filter (fun x => decide ¬ (x.source = source ∧ x.stream = stream))
        lane :=
          if s.node = .running then s.lane.takes [.source .gone source stream 0 e.lastCount e.quality false]
          else s.lane }) ∧
    (¬ (s.node ≠ .listening ∧ e.bound = none ∧ s.opts.ageTimeout * 1000000 ≤ (t - heard).toNat) →
      exec (.sourceAgeOut t source stream) s = .next { s with now := t })

/-! ## Frame assembly -/

/-- Where a piece routed to a binding goes, by the binding's state and the place of its frame (R3, R12, R17, R45, R52, R53):
`v` is the state with the arrival noted (R44, R91). Pieces that are gathered or open a frame are the matter of the next
statements. -/
def Obligations.PieceIsRouted : Prop :=
  ∀ (b : BindingNo) (p : Piece) (s v : State) (r : Binding) (n : FrameCount),
    r = s.binding b → v = s.noteArrival b →
    (r.state = .idle ∨ r.state = .draining → s.routePiece b p = s) ∧
    (r.state.active = true →
      (v.binding b).asm = { r.asm with lastArrival := some s.now } ∧ (v.binding b).acct.silent = false ∧
      (r.acct.silent = false → v = s.updAsm b (fun a => { a with lastArrival := some s.now }))) ∧
    (r.state = .armed →
      (2 ^ 31 ≤ r.deltaOf p.count →
        s.routePiece b p = v.updBinding b (fun q => q.counting (fun c => { c with early := oneMore c.early }))) ∧
      (r.deltaOf p.count < 2 ^ 31 →
        s.routePiece b p =
          (v.updBinding b (fun q =>
            { q with state := .recording, asm := { q.asm with base := some r.terms.anchor } })).recordingPiece b p)) ∧
    (r.state = .recording → r.asm.base = some n →
      (2 ^ 31 ≤ r.deltaOf p.count →
        s.routePiece b p = v.updBinding b (fun q => q.counting (fun c => { c with early := oneMore c.early }))) ∧
      (r.deltaOf p.count < 2 ^ 31 → r.deltaOf p.count < r.deltaOf n →
        s.routePiece b p = v.updBinding b (fun q => q.counting (fun c => { c with late := oneMore c.late }))) ∧
      (∀ i < 8, r.deltaOf p.count < 2 ^ 31 → r.deltaOf p.count = r.deltaOf n + i →
        match r.asm.slots[i]? with
        | some (.free own) => s.routePiece b p = v.openFrame b i own p
        | some (.filling f d) => s.routePiece b p = v.fillingPiece b i f d p
        | some (.skipped _ _) => s.routePiece b p = v
        | some (.closed _) =>
          s.routePiece b p = v.updBinding b (fun q => q.counting (fun c => { c with late := oneMore c.late }))
        | none => True)) ∧
    (r.state = .finishing → r.asm.base = none →
      s.routePiece b p = v.updBinding b (fun q => q.counting (fun c => { c with afterEnd := oneMore c.afterEnd }))) ∧
    (r.state = .finishing → r.asm.base = some n → r.asm.slots.length = 8 →
      (∀ i < 8, r.deltaOf p.count = r.deltaOf n + i →
        match r.asm.slots[i]? with
        | some (.filling f d) => s.routePiece b p = v.fillingPiece b i f d p
        | some (.skipped _ _) => s.routePiece b p = v
        | _ => s.routePiece b p = v.updBinding b (fun q => q.counting (fun c => { c with afterEnd := oneMore c.afterEnd }))) ∧
      (r.deltaOf p.count < r.deltaOf n ∨ r.deltaOf n + 8 ≤ r.deltaOf p.count →
        s.routePiece b p = v.updBinding b (fun q => q.counting (fun c => { c with afterEnd := oneMore c.afterEnd }))))

/-- A piece ahead of the window in RECORDING (R45, R46, R57): the base goes to N − 7 at least, and the piece is then taken
for a slot of the window; that the base also goes on past slots already CLOSED is the model's reading (log entry 12). The
forced advance by `k` counts (R56, R57, R82): every slot passed closes and the counts that never had a slot close UNSEEN;
the outcomes go to Frame Accounting, their gaps are handed on (log entry 9 for that order), and FREE slots enter at the top.
That the advance is one event and what the piece then does another is the model's choice (log entry 34). -/
def Obligations.WindowIsForced : Prop :=
  (∀ (b : BindingNo) (p : Piece) (s w : State) (n : FrameCount),
     (s.binding b).state = .recording → (s.binding b).asm.base = some n → (s.binding b).asm.slots.length = 8 →
     (s.binding b).deltaOf p.count < 2 ^ 31 → (s.binding b).deltaOf n + 8 ≤ (s.binding b).deltaOf p.count →
     w = (s.noteArrival b).forceAdvance b ((s.binding b).deltaOf p.count - (s.binding b).deltaOf n - 7) →
     ∃ i < 8, ∃ v : State,
       s.routePiece b p = v.pieceInSlot b i p ∧ w.worksOn v b ∧
       (v.binding b).asm = (w.binding b).asm.advanced ∧
       (v.binding b).asm.slots[i]? = some (.free none) ∧
       ∃ m : FrameCount, (v.binding b).asm.base = some m ∧ m + BitVec.ofNat 32 i = p.count) ∧
  (∀ (b : BindingNo) (k : Nat) (s u : State) (n : FrameCount),
     (s.binding b).state = .recording → (s.binding b).asm.base = some n → (s.binding b).asm.slots.length = 8 →
     (s.binding b).countersBounded → s.poolWhole → 0 < k → u = s.forceAdvance b k →
     (∀ (gone : List Slot) (os : List Closure) (passed : List (Nat × Nat)),
       gone = (s.binding b).asm.slots.take k →
       os = gone.filterMap Slot.outcome ++ List.replicate (min 8 (k - 8)) .unseen →
       passed = rangesOf ((s.binding b).deltaOf n) (fun x => gapOutcomes.any (fun o => x.outcome = some o)) gone ++
         (if 8 < k then [((s.binding b).deltaOf n + 8, (s.binding b).deltaOf n + k)] else []) →
       u = (((s.slotsClosed b gone
           ((s.binding b).asm.slots.mapIdx (fun i x => if i < k then .closed (x.outcome.getD .complete) else x))
           (gone.filter (fun x => x.outcome = some .incomplete)).length
           ((gone.filter (fun x => x.outcome = some .unseen)).length + (k - 8))).outcomesTaken b os).handGaps b passed).updBinding b
         (fun q => { q with asm := { (s.binding b).asm with
           base := some (n + BitVec.ofNat 32 k)
           slots := (s.binding b).asm.slots.drop k ++ List.replicate (min k 8) (.free none) } })) ∧
     s.worksOn u b ∧
     (u.binding b).asm = { (s.binding b).asm with
       base := some (n + BitVec.ofNat 32 k)
       slots := (s.binding b).asm.slots.drop k ++ List.replicate (min k 8) (.free none) } ∧
     (u.binding b).state = .recording ∧
     (u.binding b).counters.unseen = min 65535 ((s.binding b).counters.unseen +
       (((s.binding b).asm.slots.take k).filter (fun x => x.outcome = some .unseen)).length + (k - 8)) ∧
     (u.binding b).counters.incomplete = min 65535 ((s.binding b).counters.incomplete +
       (((s.binding b).asm.slots.take k).filter (fun x => x.outcome = some .incomplete)).length) ∧
     (u.binding b).acct.history = lastEight ((s.binding b).acct.history ++
       ((s.binding b).asm.slots.take k).filterMap Slot.outcome ++ List.replicate (min 8 (k - 8)) .unseen) ∧
     (∀ f d, .filling f d ∈ (s.binding b).asm.slots.take k → u.frame? f = none))

/-- The first piece of a frame: its slot is skipped, or it is gathered, its audio read, and a frame of one piece completes
(R47 to R51, R54, R59 to R61, R94, R116); a frame that starts at or above E puts the binding in FINISHING, every FREE slot
closing UNSEEN, and the parts of their spans below E become gaps (R16, R17, R56, R77). The model's choices: the pressure test
comes after the completion (log entry 10), and the outcomes go to Frame Accounting before the gaps are handed on (log entry
9). -/
def Obligations.FrameOpens : Prop :=
  (∀ (b : BindingNo) (i : Nat) (own : Option Time) (p : Piece) (s : State) (r : Binding) (a : Assembly) (fresh : Time)
     (slots : List Slot),
     s.poolWhole → r = s.binding b → r.state = .recording → mapOrdered r.coord.map →
     i < 8 → r.asm.slots[i]? = some (.free own) →
     a = r.asm.opened r.terms.anchor p.count s.now → fresh = s.now + BitVec.ofNat 48 (a.patience r.terms.patience) →
     slots = r.asm.slots.mapIdx (fun j x => if j < i ∧ x = .free none then .free (some fresh) else x) →
     (∀ reason, s.skipsAs b p reason →
       s.openFrame b i own p = s.updBinding b (fun q =>
         { q with
           asm := { a with slots := slots.set i (.skipped reason (own.getD fresh)) }
           counters := q.counters.skipped reason })) ∧
     (s.gathers b p →
       ∃ f : FrameRecord, s.frame? f.index = none ∧
         f.binding = b ∧ f.count = p.count ∧ f.spanStart = startOf r.terms (r.deltaOf p.count) ∧
         f.spanEnd = startOf r.terms (r.deltaOf p.count + 1) ∧ f.pieces = p.pieces.toNat ∧ f.base = p.base.toNat ∧
         f.audio = p.audio.toNat ∧ f.quality = (if p.index = 0 then some p.quality else none) ∧
         f.cells = [(p.index.toNat, p.payload)] ∧ f.byteTotal = p.payload.length ∧ f.state = .assembling ∧ f.users = 0 ∧
         f.colour = none ∧ f.peaks = Vector.replicate 4 0 ∧
         f.maxima =
           (if p.pieces.toNat - p.audio.toNat ≤ p.index.toNat ∧ p.index.toNat < p.pieces.toNat then
             readAudio r.terms.audio p.payload (Vector.replicate 4 0)
           else Vector.replicate 4 0) ∧
         ∃ (frames : List FrameRecord) (v : State),
           frames.Perm (f :: s.frames) ∧ frames.Pairwise (fun x y => x.index < y.index) ∧
           v = { s with frames := frames, freeCells := s.freeCells - 1 }.updBinding b (fun q =>
             { q with
               asm := { a with slots := slots.set i (.filling f.index (own.getD fresh)) }
               counters := { q.counters with pieces := oneMore q.counters.pieces } }) ∧
           s.openFrame b i own p = (if p.pieces.toNat = 1 then v.completeFrame b i f.index else v).pressureTest b)) ∧
  (∀ (b : BindingNo) (i : Nat) (own : Option Time) (p : Piece) (s u : State) (r : Binding),
     r = s.binding b → r.state = .recording → r.asm.base ≠ none → i < 8 → r.asm.slots[i]? = some (.free own) →
     startOf r.terms (r.deltaOf p.count) < startOf r.terms (r.deltaOf p.count + 1) →
     r.effEnd ≤ startOf r.terms (r.deltaOf p.count) → u = s.openFrame b i own p →
     s.worksOn u b ∧ (u.binding b).state = .finishing ∧
     (u.binding b).reason = some (if r.stopPos < r.terms.clipLength then .stopped else .clipFull) ∧
     (∃ d, (u.binding b).asm.slots[i]? = some (.skipped .beyond d)) ∧
     (∀ j, j ≠ i → (u.binding b).asm.slots[j]? = (r.asm.slots[j]?).map (fun x =>
       match x with
       | .free _ => .closed .unseen
       | y => y)) ∧
     (∀ (n : FrameCount) (a : Assembly) (fresh : Time) (held : List Slot) (free : Nat) (w : State),
       r.countersBounded → r.asm.base = some n → a = r.asm.opened r.terms.anchor p.count s.now →
       fresh = s.now + BitVec.ofNat 48 (a.patience r.terms.patience) →
       held = (r.asm.slots.mapIdx (fun j x => if j < i ∧ x = .free none then .free (some fresh) else x)).set i
         (.skipped .beyond (own.getD fresh)) →
       free = (held.filter (fun x => x.outcome = some .unseen)).length →
       w = s.updBinding b (fun q =>
         { q with
           state := .finishing, reason := some (if r.stopPos < r.terms.clipLength then .stopped else .clipFull)
           asm := { a with slots := held } }) →
       u = ((w.slotsClosed b [] (held.map (fun x => if x.outcome = some .unseen then .closed .unseen else x)) 0
         free).outcomesTaken b (List.replicate free .unseen)).handGaps b
           (rangesOf (r.deltaOf n) (fun x => x.outcome = some .unseen) held)) ∧
     (u.binding b).counters.unseen = min 65535 (r.counters.unseen +
       ((r.asm.slots.filter (fun x => x.outcome = some .unseen)).length - 1)) ∧
     u.frames.length ≤ s.frames.length)

/-- A piece whose slot is FILLING (R51, R54, R66, R94, R116): inconsistent, duplicate, without a cell, or placed, its audio
read; the piece that fills the set completes the frame, and a pressure test is made. That the test follows the completion is
the model's reading (log entry 10). -/
def Obligations.PieceOfOpenFrame : Prop :=
  ∀ (b : BindingNo) (i index : Nat) (d : Time) (p : Piece) (s : State) (r : Binding) (f : FrameRecord),
    r = s.binding b → r.state.active = true → s.frame? index = some f →
    (f.pieces ≠ p.pieces.toNat ∨ f.base ≠ p.base.toNat ∨ f.audio ≠ p.audio.toNat →
      s.fillingPiece b i index d p =
        s.updBinding b (fun q => q.counting (fun c => { c with inconsistent := oneMore c.inconsistent }))) ∧
    (f.pieces = p.pieces.toNat → f.base = p.base.toNat → f.audio = p.audio.toNat →
      (p.index.toNat ∈ f.cells.map Prod.fst →
        s.fillingPiece b i index d p =
          s.updBinding b (fun q => q.counting (fun c => { c with duplicates := oneMore c.duplicates }))) ∧
      (p.index.toNat ∉ f.cells.map Prod.fst →
        (s.freeCells = 0 → s.fillingPiece b i index d p =
          { s with
            frames := s.frames.filter (fun x => x.index ≠ index), freeCells := f.cells.length }.updBinding b (fun q =>
            { q with
              asm := { q.asm with slots := q.asm.slots.set i (.skipped .room d) }
              counters := { q.counters with roomSkips := oneMore q.counters.roomSkips } })) ∧
        (s.freeCells ≠ 0 →
          ∃ (cells : List (Nat × List Byte)) (g : FrameRecord) (v : State),
            cells.Perm ((p.index.toNat, p.payload) :: f.cells) ∧
            (f.cells.Pairwise (fun x y => x.1 < y.1) → cells.Pairwise (fun x y => x.1 < y.1)) ∧
            g = { f with
              cells := cells
              byteTotal := f.byteTotal + p.payload.length
              quality := if p.index = 0 then some p.quality else f.quality
              maxima :=
                if f.pieces - f.audio ≤ p.index.toNat ∧ p.index.toNat < f.pieces then
                  readAudio r.terms.audio p.payload f.maxima
                else f.maxima } ∧
            v = { s with
              freeCells := s.freeCells - 1
              frames := s.frames.map (fun (x : FrameRecord) => if x.index = index then g else x) }.updBinding b
              (fun q => q.counting (fun c => { c with pieces := oneMore c.pieces })) ∧
            s.fillingPiece b i index d p =
              (if f.cells.length + 1 = f.pieces then v.completeFrame b i index else v).pressureTest b)))

/-- The piece that fills a frame's set (R54, R82, R85, R89, R90, R95, R109): the slot closes COMPLETE and is counted; the
frame is coloured; its quality code becomes the last one; the outcome enters the history and the grade is recomputed; the
peaks are stored; its fate is decided; and in RECORDING the base goes on (R46). What is read of an audio piece, and what is
stored of the maxima (R94, R95). -/
def Obligations.FrameCompletes : Prop :=
  (∀ (b : BindingNo) (i index : Nat) (s u w : State) (r : Binding) (f : FrameRecord),
    r = s.binding b → r.state = .recording ∨ r.state = .finishing → s.frame? index = some f → i < 8 →
    r.asm.slots.length = 8 → u = s.completeFrame b i index →
    w = (s.updBinding b (fun q =>
      { q with
        asm := { q.asm with slots := q.asm.slots.set i (.closed .complete) }
        counters := { q.counters with complete := oneMore q.counters.complete } })).colourFrame b f →
    u = (((((w.updBinding b (fun q => { q with acct := { q.acct with lastQuality := f.quality } })).outcomesTaken b
        [.complete]).withFrame index (fun x => { x with peaks := storedPeaks r.terms.audio x.maxima })).decideFate b
        index).updBinding b (fun q => { q with asm := if r.state = .recording then q.asm.advanced else q.asm })) ∧
    s.worksOn u b ∧ (u.binding b).state = r.state ∧
    (u.binding b).asm =
      (if r.state = .recording then { r.asm with slots := r.asm.slots.set i (.closed .complete) }.advanced
      else { r.asm with slots := r.asm.slots.set i (.closed .complete) }) ∧
    (u.binding b).counters.complete = oneMore r.counters.complete ∧
    (u.binding b).acct.history = lastEight (r.acct.history ++ [.complete]) ∧
    (u.binding b).acct.lastQuality = f.quality) ∧
  (∀ (channels : Nat) (payload : List Byte) (m : Vector Nat 4) (k : Fin 4), channels ≤ 4 →
    (readAudio channels payload m)[k] =
      (if k.val < channels then (magnitudesOf channels k.val payload).foldl max m[k] else m[k]) ∧
    (storedPeaks channels m)[k] = if k.val < channels then m[k] / 128 else 0)

/-- SLOT_DEADLINE (R55, R56): the slot closes as its state directs, the outcome is counted and enters the history, a FILLING
slot's frame is freed (R67), a gap outcome hands the frame's span, clipped at E, on as an own gap and any other outcome hands
none, and in RECORDING the base goes on (R46). That the outcome goes to Frame Accounting, and the grade is recomputed, before
the gap is handed on is the model's choice (log entry 9). -/
def Obligations.SlotDeadlineCloses : Prop :=
  ∀ (t : Time) (b : BindingNo) (count n : FrameCount) (s w : State) (r : Binding) (i at' lo hi : Nat) (x : Slot) (d : Time)
    (o : Closure),
    r = s.binding b → r.state = .recording ∨ r.state = .finishing → r.asm.base = some n → r.asm.slots.length = 8 →
    i = (count - n).toNat → r.asm.slots[i]? = some x →
    (x = .free (some d) ∧ o = .unseen ∨ (∃ f, x = .filling f d) ∧ o = .incomplete ∨
      ∃ reason, x = .skipped reason d ∧ o = .skipped reason) →
    (t - d).toNat < 2 ^ 47 → r.countersBounded → s.poolWhole →
    at' = r.deltaOf n + i → lo = min (startOf r.terms (min at' (2 ^ 31))) r.effEnd →
    hi = min (startOf r.terms (min (at' + 1) (2 ^ 31))) r.effEnd →
    w = ((s.atTime t).slotsClosed b [x] (r.asm.slots.set i (.closed o)) (if o = .incomplete then 1 else 0)
      (if o = .unseen then 1 else 0)).outcomesTaken b [o] →
    ∃ u, exec (.slotDeadline t b count) s = .next u ∧
      u = (if o ∈ gapOutcomes then w.ownGap b lo hi else w).updBinding b (fun q =>
        { q with asm := if r.state = .recording then q.asm.advanced else q.asm }) ∧
      (s.atTime t).worksOn u b ∧ (u.binding b).state = r.state ∧
      (u.binding b).asm =
        (if r.state = .recording then { r.asm with slots := r.asm.slots.set i (.closed o) }.advanced
        else { r.asm with slots := r.asm.slots.set i (.closed o) }) ∧
      (u.binding b).acct.history = lastEight (r.acct.history ++ [o]) ∧
      (∀ f, x = .filling f d → u.frame? f = none)

/-- The gaps of an event (R56, R70, R80, R110, R120): ranges of frame counts that follow on one another are one run, others
are runs of their own; a run is clipped at E, entered in the map as OWN-GAP and, at PRIMARY, in the report buffer. An insertion
into the map of a binding (R107, R121): the clipped range takes its kind, and the own through advances over the map as the
insertion, its trim included, leaves it (log entry 36). A run that enters the report buffer (R122): it merges with the newest
run, or joins, the oldest of twelve being lost. -/
def Obligations.GapRuns : Prop :=
  ∀ (b : BindingNo) (s : State) (r : Binding),
    r = s.binding b →
    s.handGaps b [] = s ∧
    (∀ x y, s.handGaps b [(x, y)] =
      s.ownGap b (min (startOf r.terms (min x (2 ^ 31))) r.effEnd) (min (startOf r.terms (min y (2 ^ 31))) r.effEnd)) ∧
    (∀ x y z rest, s.handGaps b ((x, y) :: (y, z) :: rest) = s.handGaps b ((x, z) :: rest)) ∧
    (∀ x y y' z rest, y ≠ y' →
      s.handGaps b ((x, y) :: (y', z) :: rest) = (s.handGaps b [(x, y)]).handGaps b ((y', z) :: rest)) ∧
    (∀ lo hi, hi ≤ r.effEnd →
      (hi ≤ lo → s.ownGap b lo hi = s) ∧
      (lo < hi → r.coord.role ≠ .primary → s.ownGap b lo hi = s.insertExtent b .ownGap lo hi) ∧
      (lo < hi → r.coord.role = .primary →
        s.ownGap b lo hi = (s.insertExtent b .ownGap lo hi).report b ⟨lo, hi, .gap⟩)) ∧
    (∀ (k : ExtentKind) (lo hi : Nat), mapOrdered r.coord.map → r.coord.ownThrough ≤ r.effEnd →
      (min hi r.effEnd ≤ lo → s.insertExtent b k lo hi = s) ∧
      (lo < min hi r.effEnd → ∃ through,
        throughTo (insertInto r.effEnd k lo hi r.coord.map) r.effEnd r.coord.ownThrough through ∧
        s.insertExtent b k lo hi = s.updBinding b (fun q =>
          { q with coord := { q.coord with
            map := insertInto r.effEnd k lo hi r.coord.map, ownThrough := through } }))) ∧
    (∀ x : Run, s.counters.reportsLost ≤ 65535 →
      (∀ pre l, r.coord.report = pre ++ [l] → l.kind = x.kind → x.start = l.stop ∨ x.stop = l.start →
        s.report b x = s.updBinding b (fun q => { q with coord := { q.coord with
          report := pre ++ [⟨min l.start x.start, max l.stop x.stop, x.kind⟩] } })) ∧
      ((∀ pre l, r.coord.report = pre ++ [l] → ¬ (l.kind = x.kind ∧ (x.start = l.stop ∨ x.stop = l.start))) →
        (r.coord.report.length < 12 →
          s.report b x = s.updBinding b (fun q =>
            { q with coord := { q.coord with report := r.coord.report ++ [x] } })) ∧
        (12 ≤ r.coord.report.length →
          s.report b x = { s with
            counters := { s.counters with reportsLost := oneMore s.counters.reportsLost } }.updBinding b (fun q =>
              { q with coord := { q.coord with report := r.coord.report.drop 1 ++ [x] } }))))

/-! ## Frame Accounting -/

/-- The colour of a completed frame, what it debits and what it counts (R85, R86). -/
def Obligations.FrameIsColoured : Prop :=
  ∀ (b : BindingNo) (f : FrameRecord) (s : State) (r : Binding),
    r = s.binding b → r.state.active = true →
    (r.terms.rate = 0 →
      s.colourFrame b f = s.withFrame f.index (fun x => { x with colour := some .green })) ∧
    (r.terms.rate ≠ 0 → f.byteTotal ≤ r.acct.committed →
      s.colourFrame b f = (s.withFrame f.index (fun x => { x with colour := some .green })).updBinding b
        (fun q => { q with acct := { q.acct with committed := r.acct.committed - f.byteTotal } })) ∧
    (r.terms.rate ≠ 0 → r.acct.committed < f.byteTotal → f.byteTotal ≤ r.acct.excess →
      s.colourFrame b f = (s.withFrame f.index (fun x => { x with colour := some .yellow })).updBinding b
        (fun q =>
          { q with
            acct := { q.acct with excess := r.acct.excess - f.byteTotal }
            counters := { q.counters with yellow := oneMore q.counters.yellow } })) ∧
    (r.terms.rate ≠ 0 → r.acct.committed < f.byteTotal → r.acct.excess < f.byteTotal →
      s.colourFrame b f = (s.withFrame f.index (fun x => { x with colour := some .red })).updBinding b
        (fun q => { q with counters := { q.counters with red := oneMore q.counters.red } }))

/-- METER_CREDIT (R84): every binding in ARMED, RECORDING or FINISHING whose rate is not 0 is credited, the committed
bucket first; nothing else changes. -/
def Obligations.MeterCredit : Prop :=
  ∀ (t : Time) (s : State), t.toNat % 1000 = 0 → s.metersBounded →
    ∃ u, exec (.meterCredit t) s = .next u ∧ u = { s with now := t, bindings := u.bindings } ∧
      ∀ b : BindingNo, ∀ r : Binding, r = s.binding b → ∀ c x : Nat, c = r.acct.committed → x = r.acct.excess →
        u.binding b =
          if r.state.active = true ∧ r.terms.rate ≠ 0 then
            { r with acct := { r.acct with
              committed := if r.terms.cbs < c + r.terms.rate then r.terms.cbs else c + r.terms.rate
              excess :=
                if r.terms.cbs < c + r.terms.rate then
                  if r.terms.ebs < x + (c + r.terms.rate - r.terms.cbs) then r.terms.ebs
                  else x + (c + r.terms.rate - r.terms.cbs)
                else x } }
          else r

/-- The grade of R90 and R92, and what a recomputation does (R93, R98): nothing while the grade stays, and otherwise the new
grade, a TAKE and an evaluation. That the TAKE with the role as it was goes first, and an evaluation that changes the view
then offers its own, is the model's reading (log entry 11). -/
def Obligations.GradeRecomputed : Prop :=
  ∀ (b : BindingNo) (s : State) (r : Binding) (q g : Nat),
    r = s.binding b → r.state.active = true →
    (∀ code, r.acct.lastQuality = some code → q = code.toNat) →
    (r.acct.lastQuality = none → ∀ e ∈ s.sources, e.bound = some b → q = e.quality.toNat) →
    (r.acct.lastQuality = none → ∃ e ∈ s.sources, e.bound = some b) →
    g = r.gradeFor s.opts s.store.link q →
    (g = r.acct.grade → s.recomputeGrade b = s) ∧
    (g ≠ r.acct.grade → ∀ clip, r.clip = some clip →
      s.recomputeGrade b =
        ((s.updBinding b (fun x => { x with acct := { x.acct with grade := g } })).offer
          (.take clip g r.coord.role r.coord.primary)).evaluate b)

/-- BINDING_SILENT (R91, R92, R183): at a tick 1000 ms or more after the millisecond of the last arrival, or of the take, the
binding is silent and its grade is 0; before that, and for a binding that is silent already or not in those states, nothing
changes. -/
def Obligations.BindingFallsSilent : Prop :=
  ∀ (t : Time) (b : BindingNo) (s : State) (r : Binding) (at' since : Time),
    t.toNat % 1000 = 0 → r = s.binding b →
    (r.asm.lastArrival = some at' ∨ r.asm.lastArrival = none ∧ r.asm.takenAt = at') →
    since = BitVec.ofNat 48 (at'.toNat / 1000 * 1000) →
    (r.state.active = true ∧ r.acct.silent = false ∧ 1000000 ≤ (t - since).toNat →
      ∃ u, exec (.bindingSilent t b) s = .next u ∧ (s.atTime t).worksOn u b ∧
        (u.binding b).acct = { r.acct with silent := true, grade := 0 } ∧ (u.binding b).asm = r.asm ∧
        (u.binding b).state = r.state ∧ u.freeCells ≥ s.freeCells ∧
        (r.acct.grade = 0 →
          u = (s.atTime t).updBinding b (fun q => { q with acct := { q.acct with silent := true } }))) ∧
    (¬ (r.state.active = true ∧ r.acct.silent = false ∧ 1000000 ≤ (t - since).toNat) →
      exec (.bindingSilent t b) s = .next { s with now := t })

/-! ## Peer coordination -/

/-- TAKE, DONE and TAKER_EXPIRY (R99 to R101, R126): the taker list follows the notice and the binding is evaluated; a
notice that no binding answers to, and a TAKE from station 0, change nothing. A grade above 7 is entered as 7 (R200). -/
def Obligations.TakersFollowNotices : Prop :=
  ∀ (t : Time) (station : Station) (clip : Clip) (grade role primary reason : BitVec 8) (e : BitVec 24) (s : State),
    s.hearsFrom station →
    (∀ b, s.activeFor clip = some b →
      (station ≠ 0 → ∃ l, takerList (s.binding b).coord.takers l ⟨station, min 7 grade.toNat, msTime t⟩ ∧
        exec (.take t station clip grade role primary) s = .next
          (((s.atTime t).updBinding b (fun q => { q with coord := { q.coord with takers := l } })).evaluate b)) ∧
      exec (.done t station clip reason e) s = .next
        (((s.atTime t).updBinding b (fun q =>
          { q with coord := { q.coord with
            takers := q.coord.takers.filter (fun x => x.station ≠ station) } })).evaluate b)) ∧
    (s.activeFor clip = none ∨ station = 0 →
      exec (.take t station clip grade role primary) s = .next { s with now := t }) ∧
    (s.activeFor clip = none → exec (.done t station clip reason e) s = .next { s with now := t }) ∧
    (∀ b : BindingNo, t.toNat % 1000 = 0 →
      ((s.binding b).state.active = true →
        (∃ x ∈ (s.binding b).coord.takers, x.station = station ∧
          s.opts.takerTimeout * 1000 ≤ (t - x.lastHeard).toNat) →
        exec (.takerExpiry t b station) s = .next
          (((s.atTime t).updBinding b (fun q =>
            { q with coord := { q.coord with
              takers := q.coord.takers.filter (fun x => x.station ≠ station) } })).evaluate b)) ∧
      ((∀ x ∈ (s.binding b).coord.takers, x.station = station →
          (t - x.lastHeard).toNat < s.opts.takerTimeout * 1000) →
        exec (.takerExpiry t b station) s = .next { s with now := t }))

/-- An evaluation (R103, R104): the best station is the one that every other candidate ranks behind; it becomes the
primary-in-view where the four conditions say so. -/
def Obligations.ViewIsEvaluated : Prop :=
  ∀ (b : BindingNo) (s : State) (r : Binding) (best own : Taker),
    r = s.binding b → own.station = s.opts.station → own.grade = r.acct.grade →
    best ∈ own :: r.coord.takers → (∀ x ∈ own :: r.coord.takers, x.station = best.station ∧ x.grade = best.grade ∨ best.ahead x) →
    (r.state.active = false ∨ r.coord.role = .settling → s.evaluate b = s) ∧
    (r.state.active = true → r.coord.role ≠ .settling →
      (r.coord.primary = some best.station → s.evaluate b = s) ∧
      (r.coord.primary = none → s.evaluate b = s.changeView b best.station) ∧
      (∀ view, r.coord.primary = some view → view ≠ best.station →
        (view ≠ own.station → (∀ x ∈ r.coord.takers, x.station ≠ view) →
          s.evaluate b = s.changeView b best.station) ∧
        (∀ g, (view = own.station ∧ g = own.grade ∨
            view ≠ own.station ∧ (∃ x ∈ r.coord.takers, x.station = view) ∧
              ∀ x ∈ r.coord.takers, x.station = view → x.grade = g) →
          s.evaluate b = if g + s.opts.margin ≤ best.grade then s.changeView b best.station else s)))

/-- A change of the primary-in-view (R104, R117): the view, the role and the primary through change and a TAKE is offered;
where the role becomes PRIMARY every held frame goes to LIVE in the order of the list, while the link is UP and the queue has
room. -/
def Obligations.ViewChanges : Prop :=
  ∀ (b : BindingNo) (s w : State) (r : Binding) (view : Station) (clip : Clip),
    r = s.binding b → r.state.active = true → r.clip = some clip →
    w = (s.updBinding b (fun q => { q with coord := q.coord.viewing s.opts.station view })).offer
      (.take clip r.acct.grade (if view = s.opts.station then .primary else .shadow) (some view)) →
    (view ≠ s.opts.station → s.changeView b view = w) ∧
    (view = s.opts.station → ∀ fs : List FrameRecord,
      r.coord.held.map (fun h => s.frame? h.frame) = fs.map some → (r.coord.held.map Held.frame).Nodup →
      s.store.link = .up → s.store.live.length + fs.length ≤ 256 → r.countersBounded → ∃ u, s.changeView b view = u ∧
        u = { w with bindings := u.bindings, frames := u.frames, store := u.store } ∧ s.othersSame u b ∧
        u.store = { s.store with live := s.store.live ++ fs.map (fun f => jobFor .live b f r.effEnd) } ∧
        u.frames = s.frames.map (fun f =>
          if f.index ∈ r.coord.held.map Held.frame then f.sent (decide (r.terms.browseCells ≠ 0)) else f) ∧
        u.binding b =
          { r with
            coord := { r.coord.viewing s.opts.station view with held := [] }
            counters := { r.counters with liveWrites := min 65535 (r.counters.liveWrites + fs.length) }
            undecided :=
              if r.terms.browseCells ≠ 0 then r.undecided ++ r.coord.held.map Held.frame else r.undecided })

/-- SETTLE_DEADLINE (R102): when the deadline of a SETTLING binding arrives, the best station becomes the primary-in-view
and SETTLING is left; otherwise nothing changes. -/
def Obligations.SettleDeadline : Prop :=
  ∀ (t : Time) (b : BindingNo) (s : State) (r : Binding) (best own : Taker) (time : Time),
    r = s.binding b → own.station = s.opts.station → own.grade = r.acct.grade →
    best ∈ own :: r.coord.takers → (∀ x ∈ own :: r.coord.takers, x.station = best.station ∧ x.grade = best.grade ∨ best.ahead x) →
    r.coord.settle = some time →
    (r.state.active = true ∧ r.coord.role = .settling ∧ (t - time).toNat < 2 ^ 47 →
      ∃ u, exec (.settleDeadline t b) s = .next u ∧
        u = ((s.atTime t).updBinding b (fun q => { q with coord := { q.coord with settle := none } })).changeView b
          best.station ∧
        (s.atTime t).worksOn u b ∧ (u.binding b).coord.primary = some best.station ∧
        (u.binding b).coord.role = (if best.station = s.opts.station then .primary else .shadow) ∧
        (best.station = s.opts.station → (u.binding b).coord.held = [])) ∧
    (¬ (r.state.active = true ∧ r.coord.role = .settling ∧ (t - time).toNat < 2 ^ 47) →
      exec (.settleDeadline t b) s = .next { s with now := t })

/-- TAKE_TIME (R98), PRESENCE_TIME (R180, R181) and EXTENT_TIME (R123): at its time the notice is offered and the time moves
one period on; before it nothing changes. An EXTENT is offered in RECORDING and FINISHING alone, with up to six of the
oldest runs, where there is a run or a new through value; that an absent last through counts as different is the model's
choice (log entry 20). -/
def Obligations.TimedNotices : Prop :=
  (∀ (t : Time) (b : BindingNo) (s : State) (r : Binding),
     r = s.binding b →
     (∀ clip, r.state.active = true → r.clip = some clip → (t - r.coord.nextTake).toNat < 2 ^ 47 →
       exec (.takeTime t b) s = .next (((s.atTime t).updBinding b (fun q =>
         { q with coord := { q.coord with nextTake := q.coord.nextTake + ms s.opts.presence } })).offer
           (.take clip r.acct.grade r.coord.role r.coord.primary))) ∧
     (r.state.active = false ∨ 2 ^ 47 ≤ (t - r.coord.nextTake).toNat →
       exec (.takeTime t b) s = .next { s with now := t }) ∧
     (∀ time, s.node = .running ∨ s.node = .restarting → s.lane.nextPresence = some time →
       (t - time).toNat < 2 ^ 47 →
       exec (.presenceTime t) s = .next
         ({ s with
           now := t
           lane := { s.lane with nextPresence := some (time + ms s.opts.presence) } : State }.offer
           (.presence
             { node := s.node, link := s.store.link, house := s.house.state, houseCounter := s.house.counter,
               freeCells := s.freeCells, active := (allBindings.filter (fun b => (s.binding b).state ≠ .idle)).length,
               lines := allPorts.map (fun p => (s.port p).line) }))) ∧
     (∀ time, s.lane.nextPresence = some time → 2 ^ 47 ≤ (t - time).toNat →
       exec (.presenceTime t) s = .next { s with now := t }) ∧
     (s.node = .loading ∨ s.node = .listening ∨ s.lane.nextPresence = none →
       exec (.presenceTime t) s = .next { s with now := t })) ∧
  (∀ (t : Time) (b : BindingNo) (s w : State) (r : Binding),
     r = s.binding b → r.state.active = true →
     w = (s.atTime t).updBinding b (fun q =>
       { q with coord := { q.coord with nextExtent := q.coord.nextExtent + BitVec.ofNat 32 s.opts.extentPeriod } }) →
     ((s.house.counter - r.coord.nextExtent).toNat < 2 ^ 31 →
       (∀ clip, r.state ≠ .armed → r.clip = some clip →
         r.coord.report ≠ [] ∨ r.coord.lastThrough ≠ some r.coord.ownThrough →
         exec (.extentTime t b) s = .next
           ((w.updBinding b (fun q =>
             { q with coord := { q.coord with
               report := q.coord.report.drop 6, lastThrough := some q.coord.ownThrough } })).offer
             (.extent clip r.coord.role r.coord.ownThrough (r.coord.report.take 6)))) ∧
       (r.state = .armed ∨ r.coord.report = [] ∧ r.coord.lastThrough = some r.coord.ownThrough →
         exec (.extentTime t b) s = .next w)) ∧
     (2 ^ 31 ≤ (s.house.counter - r.coord.nextExtent).toNat → exec (.extentTime t b) s = .next { s with now := t }))

/-- HOLD_DEADLINE (R111, R114, R115): the due held frame of lowest stored position is filled; with none due nothing
changes. That one command fills one frame is the model's choice (log entry 16). A pressure test (R116): under pressure the held
frame of lowest stored position goes to FILL; at PRIMARY, below the level, and with nothing held, nothing changes. A fill in
general (R114, R127): the frame leaves the list, is counted, and its job is handed over, taken or not. -/
def Obligations.HeldFramesAreFilled : Prop :=
  (∀ (t : Time) (b : BindingNo) (s : State) (r : Binding),
     r = s.binding b → r.state.active = true →
     (∀ (pre post : List Held) (h : Held) (f : FrameRecord),
       r.coord.held = pre ++ h :: post → (∀ x ∈ pre, 2 ^ 31 ≤ (s.house.counter - x.deadline).toNat) →
       (s.house.counter - h.deadline).toNat < 2 ^ 31 → s.frame? h.frame = some f →
       s.store.link = .up → s.store.fill.length < 256 →
       exec (.holdDeadline t b) s = .next
         (({ s with
           now := t
           store := { s.store with fill := s.store.fill ++ [jobFor .fill b f r.effEnd] } : State }.withFrame h.frame
           (fun x => x.sent (decide (r.terms.browseCells ≠ 0)))).updBinding b (fun q =>
           { q with
             coord := { q.coord with held := q.coord.held.filter (fun x => x.frame ≠ h.frame) }
             counters := { q.counters with fills := oneMore q.counters.fills }
             undecided := if r.terms.browseCells ≠ 0 then q.undecided ++ [h.frame] else q.undecided }))) ∧
     ((∀ x ∈ r.coord.held, 2 ^ 31 ≤ (s.house.counter - x.deadline).toNat) →
       exec (.holdDeadline t b) s = .next { s with now := t })) ∧
  (∀ (b : BindingNo) (h : Held) (s : State) (r : Binding) (f : FrameRecord),
     r = s.binding b → r.state.active = true → s.frame? h.frame = some f →
     s.fillHeld b h =
       (((s.withFrame h.frame (fun x => x.sent (decide (r.terms.browseCells ≠ 0)))).updBinding b (fun q =>
         { q with
           coord := { q.coord with held := q.coord.held.filter (fun x => x.frame ≠ h.frame) }
           counters := { q.counters with fills := oneMore q.counters.fills } })).handOver
         (jobFor .fill b f r.effEnd)).updBinding b (fun q =>
           { q with undecided := if r.terms.browseCells ≠ 0 then q.undecided ++ [h.frame] else q.undecided })) ∧
  (∀ (b : BindingNo) (s : State) (r : Binding),
     r = s.binding b →
     (r.coord.role = .primary ∨ s.holding b < 3 * (Config.poolCells / s.busyBindings.length) / 4 ∨ r.coord.held = [] →
       s.pressureTest b = s) ∧
     (∀ h rest f, r.state.active = true → r.coord.role ≠ .primary → r.coord.held = h :: rest →
       3 * (Config.poolCells / s.busyBindings.length) / 4 ≤ s.holding b → s.frame? h.frame = some f →
       s.store.link = .up → s.store.fill.length < 256 →
       s.pressureTest b =
         ({ s with
           store := { s.store with fill := s.store.fill ++ [jobFor .fill b f r.effEnd] } : State }.withFrame h.frame
           (fun x => x.sent (decide (r.terms.browseCells ≠ 0)))).updBinding b (fun q =>
           { q with
             coord := { q.coord with held := q.coord.held.filter (fun x => x.frame ≠ h.frame) }
             counters := { q.counters with fills := oneMore q.counters.fills }
             undecided := if r.terms.browseCells ≠ 0 then q.undecided ++ [h.frame] else q.undecided })))

/-- EXTENT of a peer (R113, R114, R125): the WRITTEN runs enter the map, the GAP runs only from the primary-in-view, whose
through value is kept; then the held frames that a WRITTEN run meets and that are stored yield, and those in a GAP range or
below the through value are filled in the order of the list. Nothing of another binding moves. That all yields come after
every run is entered and before the fills is log entry 15. -/
def Obligations.PeerExtentIsEntered : Prop :=
  ∀ (t : Time) (station : Station) (clip : Clip) (role : BitVec 8) (th : BitVec 24) (runs : List WireRun) (s : State),
    s.hearsFrom station →
    (s.activeFor clip = none → exec (.extent t station clip role th runs) s = .next { s with now := t }) ∧
    (∀ (b : BindingNo) (r : Binding) (w v : State) (written gaps : List (Nat × Nat)) (yields fills : Held → Bool),
      s.activeFor clip = some b → r = s.binding b → r.coord.bounded →
      written = (runs.filter (fun x => x.kind = 1 ∧ x.count ≠ 0)).map
        (fun x => (x.start.toNat, x.start.toNat + x.count.toNat)) →
      gaps = (runs.filter (fun x => x.kind = 2 ∧ x.count ≠ 0)).map
        (fun x => (x.start.toNat, x.start.toNat + x.count.toNat)) →
      w = written.foldl (fun v x => v.insertExtent b .peerWritten x.1 x.2) (s.atTime t) →
      v = (if r.coord.primary = some station then
        (gaps.foldl (fun v x => v.insertExtent b .primaryGap x.1 x.2) w).updBinding b
          (fun q => { q with coord := { q.coord with primaryThrough := some th.toNat } })
        else w) →
      v.yieldsTo b written yields →
      (∀ h ∈ r.coord.held, fills h = true ↔ r.coord.primary = some station ∧
        (h.position < th.toNat ∨ ∃ x ∈ gaps, x.1 ≤ h.position ∧ h.position < min x.2 r.effEnd)) →
      ∃ u, exec (.extent t station clip role th runs) s = .next u ∧
        u = (r.coord.held.filter (fun h => fills h && !yields h)).foldl (fun x h => x.fillHeld b h)
          (v.heldYielded b yields) ∧
        (s.atTime t).worksOn u b ∧ (u.binding b).state = r.state ∧ (u.binding b).asm = r.asm ∧
        (u.binding b).acct = r.acct ∧
        (r.coord.primary = some station → ∀ h ∈ (u.binding b).coord.held, th.toNat ≤ h.position))

/-- The fate of a completed frame (R109 to R112, R116, R127), by the first test that holds. That the pressure test is also made
after a frame that is filled at once, and then after the fill, is the model's reading (log entry 10). -/
def Obligations.FateOfFrame : Prop :=
  ∀ (b : BindingNo) (index : Nat) (s : State) (r : Binding) (f : FrameRecord) (hi : Nat),
    r = s.binding b → r.state.active = true → mapOrdered r.coord.map → s.frame? index = some f → f.users = 0 →
    hi = min f.spanEnd r.effEnd →
    (stored r.coord.map f.spanStart hi →
      s.decideFate b index = (s.freed f).updBinding b (fun q =>
        q.counting (fun c => { c with yields := oneMore c.yields }))) ∧
    (¬ stored r.coord.map f.spanStart hi →
      (f.colour = some .red → s.decideFate b index = (s.ownGap b f.spanStart hi).freed f) ∧
      (f.colour ≠ some .red → r.coord.role = .primary → s.store.link = .up → s.store.live.length < 256 →
        s.decideFate b index =
          ({ s with
            store := { s.store with live := s.store.live ++ [jobFor .live b f r.effEnd] } : State }.withFrame index
            (fun x => x.sent (decide (r.terms.browseCells ≠ 0)))).updBinding b (fun q =>
            { q with
              counters := { q.counters with liveWrites := oneMore q.counters.liveWrites }
              undecided := if r.terms.browseCells ≠ 0 then q.undecided ++ [index] else q.undecided })) ∧
      (f.colour ≠ some .red → r.coord.role = .primary →
        s.decideFate b index =
          (((s.withFrame index (fun x => x.sent (decide (r.terms.browseCells ≠ 0)))).updBinding b (fun q =>
            { q with counters := { q.counters with liveWrites := oneMore q.counters.liveWrites } })).handOver
            (jobFor .live b f r.effEnd)).updBinding b (fun q =>
              { q with undecided := if r.terms.browseCells ≠ 0 then q.undecided ++ [index] else q.undecided })) ∧
      (f.colour ≠ some .red → r.coord.role ≠ .primary →
        ∀ h : Held, h = ⟨index, f.spanStart, hi, s.house.counter + BitVec.ofNat 32 s.opts.window⟩ →
        ∃ (held : List Held) (w : State),
          held.Perm (h :: r.coord.held) ∧
          (r.coord.held.Pairwise (fun x y => x.position < y.position) →
            held.Pairwise (fun x y => x.position ≤ y.position)) ∧
          w = (s.withFrame index (fun x => { x with state := .held })).updBinding b (fun q =>
            { q with coord := { q.coord with held := held } }) ∧
          (kindAt r.coord.map f.spanStart = some .primaryGap ∨
              (∃ th, r.coord.primaryThrough = some th ∧ f.spanStart < th) →
            s.decideFate b index = (w.fillHeld b h).pressureTest b) ∧
          (kindAt r.coord.map f.spanStart ≠ some .primaryGap →
            (∀ th, r.coord.primaryThrough = some th → th ≤ f.spanStart) →
            s.decideFate b index = w.pressureTest b ∧
            (s.holding b < 3 * (Config.poolCells / s.busyBindings.length) / 4 → s.decideFate b index = w))))

/-! ## House time and the occupancy average -/

/-- HREF_PULSE, FREE_RUN_ENTRY and INTERNAL_HOUSE_FRAME (R185 to R187). That the last two change nothing before their time is
the model's choice (log entry 2). -/
def Obligations.HouseTimeRuns : Prop :=
  ∀ (t : Time) (s : State) (h : House) (g : Nat),
    h = s.house → g = (t - h.lastFrame).toNat → s.loaded = true → s.node ≠ .loading →
    (exec (.hrefPulse t) s = .next { s with
      now := t
      house :=
        if h.state = .referenced ∧ g < h.period / 2 then h
        else if h.state = .referenced then
          { state := .referenced, counter := h.counter + 1, lastFrame := t, byPulse := true
            period :=
              if h.byPulse then
                ((h.period : Int) + Int.tdiv (max 10000 (min 100000 (g : Int)) - h.period) 8).toNat
              else h.period }
        else
          { state := .referenced, counter := if g < h.period / 2 then h.counter else h.counter + 1, lastFrame := t,
            byPulse := true, period := h.period } }) ∧
    (h.state = .referenced → 2 * h.period ≤ g → exec (.freeRunEntry t) s = .next { s with
      now := t
      house := { state := .freeRun, period := h.period, counter := h.counter + 1, lastFrame := t, byPulse := false }
      counters := { s.counters with referenceLoss := oneMore s.counters.referenceLoss } }) ∧
    (h.state = .freeRun → h.period ≤ g → exec (.internalHouseFrame t) s = .next { s with
      now := t
      house := { state := .freeRun, period := h.period, counter := h.counter + 1, lastFrame := t, byPulse := false } }) ∧
    (h.state = .freeRun ∨ g < 2 * h.period → exec (.freeRunEntry t) s = .next { s with now := t }) ∧
    (h.state = .referenced ∨ g < h.period → exec (.internalHouseFrame t) s = .next { s with now := t })

/-- OCCUPANCY_UPDATE, and the band that a thinning test reads (R158). -/
def Obligations.OccupancyFollows : Prop :=
  ∀ (t : Time) (s : State) (a : Nat), t.toNat % 1000 = 0 → s.freeCells ≤ 16384 → a = s.browse.occupancy →
    exec (.occupancyUpdate t) s = .next { s with
      now := t
      browse := { s.browse with
        occupancy := ((a : Int) + Int.tdiv ((16384 - (s.freeCells : Int)) - a) 16).toNat } } ∧
    s.browse.band = min 15 (a / 1024)

/-! ## Requests -/

/-- The clamps of a request, field by field (R7). -/
def Obligations.RequestIsClamped : Prop :=
  ∀ (r : Request) (t : Terms), t = clampRequest r →
    t.divisor = (if r.divisor.toNat = 0 then 1 else if 64 < r.divisor.toNat then 64 else r.divisor.toNat) ∧
    t.browseCells = (if r.browseCells.toNat ≤ 1 then 0 else r.browseCells.toNat) ∧
    t.rate = (if 2000000 < r.rate.toNat then 2000000 else r.rate.toNat) ∧
    t.cbs = (if 67108864 < max r.cbs.toNat (r.slotCells.toNat * 1024) then 67108864
      else if r.cbs.toNat < r.slotCells.toNat * 1024 then r.slotCells.toNat * 1024 else r.cbs.toNat) ∧
    t.ebs = (if 67108864 < r.ebs.toNat then 67108864 else r.ebs.toNat) ∧
    t.patience =
      (if r.patience.toNat = 0 then none
      else if r.patience.toNat < 2000 then some 2000
      else if 1000000 < r.patience.toNat then some 1000000
      else some r.patience.toNat) ∧
    t.browseBase = (if r.browseCells.toNat ≤ 1 then none else some r.browseBase.toNat) ∧
    t.source = r.source ∧ t.stream = r.stream ∧ t.anchor = r.anchor ∧ t.hn = r.hn.toNat ∧ t.hd = r.hd.toNat ∧
    t.fn = r.fn.toNat ∧ t.fd = r.fd.toNat ∧ t.clipLength = r.clipLength.toNat ∧ t.slotCells = r.slotCells.toNat ∧
    t.audio = r.audio.toNat ∧ t.essenceBase = r.essenceBase.toNat ∧ t.indexBase = r.indexBase.toNat

/-- RECORD in RUNNING that is answered without a take (R4 to R9), and RECORD in RESTARTING (R4). -/
def Obligations.RecordIsAnswered : Prop :=
  ∀ (t : Time) (station : Station) (req : Request) (order : List Nat) (s v : State),
    station ≠ s.opts.station → v = { s with now := t } →
    (s.node = .restarting → exec (.record t station req order) s = .next v) ∧
    (s.node = .running →
      (∀ b, s.repeats req b → (∀ b' < b, ¬ s.repeats req b') →
        exec (.record t station req order) s = .next
          (v.offer (.take req.clip (s.binding b).acct.grade (s.binding b).coord.role (s.binding b).coord.primary))) ∧
      ((∀ b, ¬ s.repeats req b) →
        ((∀ e, s.entry? req.source req.stream = some e → e.ports = 0) →
          exec (.record t station req order) s = .next v) ∧
        (∀ e k, s.entry? req.source req.stream = some e → e.ports ≠ 0 →
          checkFails req.clip (clampRequest req) k → (∀ j < k, ¬ checkFails req.clip (clampRequest req) j) →
          exec (.record t station req order) s = .next (v.offer (.decline req.clip .badParams k)))) ∧
      (∀ e, s.considers req e →
        (s.clipBusy req.clip →
          exec (.record t station req order) s = .next (v.offer (.decline req.clip .clipBusy 0))) ∧
        (¬ s.clipBusy req.clip → e.bound ≠ none →
          exec (.record t station req order) s = .next (v.offer (.decline req.clip .sourceBusy 0))) ∧
        (¬ s.clipBusy req.clip → e.bound = none → (∀ b : BindingNo, (s.binding b).state ≠ .idle) →
          exec (.record t station req order) s = .next (v.offer (.decline req.clip .noBinding 0))) ∧
        (¬ s.clipBusy req.clip → e.bound = none → (∃ b : BindingNo, (s.binding b).state = .idle) →
          s.store.link ≠ .up →
          exec (.record t station req order) s = .next (v.offer (.decline req.clip .storeDown 0)))))

/-- RECORD that is taken (R2, R10, R60, R92, R98, R152): the lowest-numbered IDLE record starts, an IDLE record that kept the
clip loses it, the source entry is bound and a TAKE is offered. Other bindings, the frames, the class queues and the counters
of the node change only by a pressure test (R116), and so not where no other binding holds a frame. -/
def Obligations.RecordIsTaken : Prop :=
  ∀ (t : Time) (station : Station) (req : Request) (order : List Nat) (s : State) (e : SourceEntry) (b : BindingNo) (g : Nat),
    s.hearsFrom station → s.tableLawful → s.considers req e → ¬ s.clipBusy req.clip → e.bound = none →
    s.store.link = .up → (s.binding b).state = .idle → (∀ b' < b, (s.binding b').state ≠ .idle) →
    g = s.opts.grades.getD e.quality.toNat 0 →
    ∃ u, exec (.record t station req order) s = .next u ∧
      u.binding b = startedBinding req g s.opts.presence s.opts.extentPeriod t s.house.counter ∧
      (∀ b', b' ≠ b → (s.binding b').state = .idle →
        u.binding b' =
          if (s.binding b').clip = some req.clip then { s.binding b' with clip := none } else s.binding b') ∧
      (∀ b', b' ≠ b → (s.binding b').state ≠ .idle →
        (s.binding b').coord.role = .primary ∨ (s.binding b').coord.held = [] → u.binding b' = s.binding b') ∧
      u.sources = s.sources.map (fun x =>
        if x.source = req.source ∧ x.stream = req.stream then { x with bound := some b } else x) ∧
      u.lane = ((s.atTime t).offer (.take req.clip g .settling none)).lane ∧ u.now = t ∧ s.sameShell u ∧ s.sameLink u ∧
      ((∀ b' : BindingNo, b' ≠ b → (s.binding b').coord.role = .primary ∨ (s.binding b').coord.held = []) →
        u.frames = s.frames ∧ u.freeCells = s.freeCells ∧ u.store = s.store ∧
          u.counters = ((s.atTime t).offer (.take req.clip g .settling none)).counters)

/-- No two bindings that are not IDLE have one clip (R11), so a clip names one binding. -/
def Obligations.ClipNamesOneBinding : Prop :=
  ∀ (s : State) (clip : Clip) (b : BindingNo), s.tableLawful →
    (s.activeFor clip = some b ↔ s.records b clip) ∧
    (s.holderOf clip = some b ↔
      (s.binding b).state ≠ .idle ∧ (s.binding b).clip = some clip ∨
      (∀ b' : BindingNo, (s.binding b').state ≠ .idle → (s.binding b').clip ≠ some clip) ∧ (s.binding b).state = .idle ∧
        (s.binding b).clip = some clip ∧ ∀ b' < b, ¬ ((s.binding b').state = .idle ∧ (s.binding b').clip = some clip))

/-- STOP with a position (R13, R14, R17, R56): the stop position and E fall, the held frames and open frames at or above the
new E end without a gap, and a RECORDING binding whose end now lies in or below its window enters FINISHING, where every
FREE slot closes UNSEEN and the spans below E become gaps; the own through falls to E (R121). That the base stays where it is
is the model's reading (log entry 12), and so is the order of the endings (log entries 13 and 14); that outcomes go to Frame
Accounting before gaps are handed on (log entry 9), and that the extent map stays whole at the lowered E (log entry 42), are
its choices. -/
def Obligations.StopAtPosition : Prop :=
  ∀ (t : Time) (station : Station) (clip : Clip) (p : BitVec 24) (s : State),
    s.hearsFrom station → p.toNat ≠ 16777215 →
    (s.activeFor clip = none → exec (.stop t station clip p) s = .next { s with now := t }) ∧
    (∀ (b : BindingNo) (r : Binding) (e : Nat),
      s.activeFor clip = some b → r = s.binding b → e = min r.terms.clipLength p.toNat →
      (r.stopPos < p.toNat → exec (.stop t station clip p) s = .next { s with now := t }) ∧
      (p.toNat ≤ r.stopPos →
        ∃ u, exec (.stop t station clip p) s = .next u ∧ (s.atTime t).worksOn u b ∧
          (u.binding b).stopPos = p.toNat ∧ (u.binding b).effEnd = e ∧ (u.binding b).terms = r.terms ∧
          (r.state = .armed →
            (e = 0 → (u.binding b).state = .finishing ∧ (u.binding b).reason = some .stopped) ∧
            (e ≠ 0 → u = (s.atTime t).updBinding b (fun q =>
              { q with stopPos := p.toNat, effEnd := e,
                       coord := { q.coord with ownThrough := min q.coord.ownThrough e } }))) ∧
          (r.state = .finishing → (u.binding b).state = .finishing ∧ (u.binding b).reason = r.reason) ∧
          (∀ v : State, v = (s.atTime t).updBinding b (fun q =>
              { q with stopPos := p.toNat, effEnd := e, coord := { q.coord with ownThrough := min q.coord.ownThrough e } }) →
            (r.state = .finishing → r.asm.base = none → r.countersBounded → u = if e < r.effEnd then v.heldEnded b e else v) ∧
            (r.state ≠ .armed → s.poolWhole → r.countersBounded → r.asm.slots.length = 8 →
              ∀ (n : FrameCount) (ends : Nat → Slot → Bool) (gone slots : List Slot) (w : State),
              r.asm.base = some n →
              ends = (fun i x => x.isOpen && decide (e ≤ startOf r.terms (min (r.deltaOf n + i) (2 ^ 31)))) →
              gone = (r.asm.slots.zipIdx.filter (fun x => ends x.2 x.1)).map Prod.fst →
              slots = r.asm.slots.mapIdx (fun i x => if ends i x then .closed (.skipped .beyond) else x) →
              w = (if e < r.effEnd then
                ((v.heldEnded b e).slotsClosed b gone slots 0 0).outcomesTaken b
                  (List.replicate gone.length (.skipped .beyond))
                else v) →
              (r.state = .recording → (e ≤ startOf r.terms (min (r.deltaOf n) (2 ^ 31)) ∨ e < r.effEnd ∧ gone ≠ []) →
                ∀ (held : List Slot) (free : Nat), held = (w.binding b).asm.slots →
                  free = (held.filter (fun x => x.outcome = some .unseen)).length →
                  u = (((w.updBinding b (fun q => { q with state := .finishing, reason := some .stopped })).slotsClosed b []
                    (held.map (fun x => if x.outcome = some .unseen then .closed .unseen else x)) 0 free).outcomesTaken b
                    (List.replicate free .unseen)).handGaps b
                    (rangesOf (r.deltaOf n) (fun x => x.outcome = some .unseen) held)) ∧
              (r.state = .finishing ∨ ¬ (e ≤ startOf r.terms (min (r.deltaOf n) (2 ^ 31)) ∨ e < r.effEnd ∧ gone ≠ []) →
                u = w))) ∧
          (r.state ≠ .armed → ∀ (n : FrameCount) (at' : Nat → Nat),
            r.asm.base = some n → at' = (fun i => startOf r.terms (min (r.deltaOf n + i) (2 ^ 31))) →
            (r.state = .recording →
              ((e ≤ at' 0 ∨ e < r.effEnd ∧ ∃ i x, r.asm.slots[i]? = some x ∧ x.open ∧ e ≤ at' i) →
                (u.binding b).state = .finishing ∧ (u.binding b).reason = some .stopped) ∧
              (¬ (e ≤ at' 0 ∨ e < r.effEnd ∧ ∃ i x, r.asm.slots[i]? = some x ∧ x.open ∧ e ≤ at' i) →
                (u.binding b).state = .recording ∧ (u.binding b).reason = r.reason)) ∧
            (u.binding b).asm = { r.asm with
              slots := r.asm.slots.mapIdx (fun i x =>
                match x with
                | .free d =>
                  if r.state = .recording ∧ (u.binding b).state = .finishing then .closed .unseen else .free d
                | .filling f d => if e < r.effEnd ∧ e ≤ at' i then .closed (.skipped .beyond) else .filling f d
                | .skipped k d => if e < r.effEnd ∧ e ≤ at' i then .closed (.skipped .beyond) else .skipped k d
                | .closed o => .closed o) } ∧
            (e < r.effEnd →
              (∀ h ∈ (u.binding b).coord.held, h.position < e) ∧
              ∀ i f d, r.asm.slots[i]? = some (.filling f d) → e ≤ at' i → u.frame? f = none))))

/-- An immediate stop (R15): E falls to the window's base, the own through with it (R121), every slot of the window closes
without a gap, and the binding finishes. The held frames at or above the new E are released first (R14, R112; the model's choice,
log entries 14 and 32) and the extent map stays whole (its choice, log entry 42); that the base stays where it is (log entry 12)
and that all slots close as one event, in order of frame count (log entry 13), are the model's readings. -/
def Obligations.StopAtOnce : Prop :=
  ∀ (t : Time) (station : Station) (clip : Clip) (s : State),
    s.hearsFrom station →
    (s.activeFor clip = none → exec (.immediateStop t station clip) s = .next { s with now := t }) ∧
    (∀ (b : BindingNo) (r : Binding),
      s.activeFor clip = some b → r = s.binding b →
      (r.state = .armed → r.asm.base = none →
        exec (.immediateStop t station clip) s = .next ((s.atTime t).updBinding b (fun q =>
          { q with
            stopPos := 0, effEnd := 0, state := .finishing, reason := some .stopped
            coord := { q.coord with ownThrough := 0 } }))) ∧
      (r.state = .finishing → r.asm.base = none →
        exec (.immediateStop t station clip) s = .next { s with now := t }) ∧
      (∀ n e e' free, r.state = .recording ∨ r.state = .finishing → r.asm.base = some n → r.countersBounded →
        s.poolWhole → r.asm.slots.length = 8 →
        e = startOf r.terms (min (r.deltaOf n) (2 ^ 31)) → e' = min r.terms.clipLength (min r.stopPos e) →
        free = (r.asm.slots.filter (fun x => x.outcome = some .unseen)).length →
        ∃ u, exec (.immediateStop t station clip) s = .next u ∧
          u = ((((((s.atTime t).updBinding b (fun q =>
              { q with
                stopPos := min r.stopPos e, effEnd := e'
                coord := { q.coord with ownThrough := min q.coord.ownThrough e' } })).heldEnded b e').slotsClosed b
              (r.asm.slots.filter Slot.isOpen) (r.asm.slots.map Slot.stopped) 0 free).outcomesTaken b
              (r.asm.slots.filterMap (fun x =>
                if x.isOpen then some (.skipped .beyond) else if x.outcome = some .unseen then some .unseen else none))).updBinding b
              (fun q => { q with
                state := .finishing, reason := if r.state = .recording then some .stopped else r.reason })) ∧
          (s.atTime t).worksOn u b ∧ (∀ h ∈ (u.binding b).coord.held, h.position < e') ∧
          (u.binding b).state = .finishing ∧
          (u.binding b).reason = (if r.state = .recording then some .stopped else r.reason) ∧
          (u.binding b).stopPos = min r.stopPos e ∧
          (u.binding b).effEnd = min r.terms.clipLength (min r.stopPos e) ∧
          (u.binding b).asm = { r.asm with slots := r.asm.slots.map Slot.stopped } ∧
          (u.binding b).counters.unseen = min 65535 (r.counters.unseen +
            (r.asm.slots.filter (fun x => x.outcome = some .unseen)).length) ∧
          (∀ f d, .filling f d ∈ r.asm.slots → u.frame? f = none)))

/-- ABORT (R18, R19, R64, R149): the binding drains, and is drained already, with its DONE pending, where nothing of it is in
flight; its frames and held frames are released, its jobs leave the queues, and the transactions in flight stay. Nothing of
another binding, its record, frames and jobs, nor of the sources, the lane or the node counters changes. That DRAINING leaves a
window without a base and with FREE slots is the model's choice (log entry 40). -/
def Obligations.AbortDrains : Prop :=
  ∀ (t : Time) (station : Station) (clip : Clip) (s : State),
    s.hearsFrom station → s.poolWhole → s.queuesLawful →
    (s.activeFor clip = none → exec (.abort t station clip) s = .next { s with now := t }) ∧
    (∀ b, s.activeFor clip = some b →
      ∃ u, exec (.abort t station clip) s = .next u ∧ s.abortedIn u b .no ∧ s.othersSame u b ∧ s.sameFlight u ∧
        s.sameShell u ∧ u.now = t ∧ u.sources = s.sources ∧ u.lane = s.lane ∧ u.counters = s.counters ∧
        u.store.link = s.store.link ∧ u.store.failures = s.store.failures ∧
        u.store.trainingSince = s.store.trainingSince ∧ u.store.pacing = s.store.pacing ∧
        u.store.nextProbe = s.store.nextProbe ∧
        (∀ c : JobClass, u.store.queue c = (s.store.queue c).filter (fun j => j.binding ≠ b)) ∧
        (∀ c : JobClass, u.store.current c = if u.store.queue c = [] then 0 else s.store.current c) ∧
        u.frames.filter (fun f => f.binding ≠ b) = s.frames.filter (fun f => f.binding ≠ b) ∧ u.poolWhole)

/-- DRAIN_END and BINDING_QUIET (R2, R17, R19, R20): a DONE becomes pending exactly when the drain has ended, or the five
conditions of quietness hold; a binding whose DONE is suppressed becomes IDLE when its drain ends. DONE_QUEUED (R20): the DONE
of the lowest-numbered waiting binding joins the queue where it can, and the binding becomes IDLE. That these are
events of their own is the model's choice (log entries 7 and 8). -/
def Obligations.RecordingEnds : Prop :=
  (∀ (t : Time) (b : BindingNo) (s : State) (r : Binding), r = s.binding b →
     (r.state = .draining → ¬ s.flies b →
       (r.donePending = .no →
         exec (.drainEnd t b) s = .next ((s.atTime t).updBinding b (fun q => { q with donePending := .yes }))) ∧
       (r.donePending = .suppressed → exec (.drainEnd t b) s = .next ((s.atTime t).idled b))) ∧
     (r.state ≠ .draining ∨ r.donePending = .yes ∨ s.flies b →
       exec (.drainEnd t b) s = .next { s with now := t }) ∧
     (r.state = .finishing ∧ r.donePending = .no ∧ s.isQuiet b →
       exec (.bindingQuiet t b) s = .next ((s.atTime t).updBinding b (fun q => { q with donePending := .yes }))) ∧
     (¬ (r.state = .finishing ∧ r.donePending = .no ∧ s.isQuiet b) →
       exec (.bindingQuiet t b) s = .next { s with now := t })) ∧
  (∀ (t : Time) (b : BindingNo) (s : State) (r : Binding), r = s.binding b →
     (∀ clip, s.node = .running → r.donePending = .yes → r.clip = some clip →
       (∀ b' < b, (s.binding b').donePending ≠ .yes) → s.acceptsDone →
       ∃ u, u = (s.atTime t).offer (.done clip r.reason r.effEnd) ∧
         exec (.doneQueued t b) s = .next (u.idled b) ∧ u.lane.queue ≠ [] ∧
         u.lane.queue.getLast? = some (.done clip r.reason r.effEnd) ∧ u.counters = s.counters) ∧
     (r.donePending = .suppressed → r.state = .draining → ¬ s.flies b →
       exec (.doneQueued t b) s = .next ((s.atTime t).idled b)) ∧
     (r.donePending = .no ∨
         r.donePending = .yes ∧ (¬ s.acceptsDone ∨ ∃ b' < b, (s.binding b').donePending = .yes) ∨
         r.donePending = .suppressed ∧ (r.state ≠ .draining ∨ s.flies b) →
       exec (.doneQueued t b) s = .next { s with now := t }))

/-- QUERY (R21, R22, R196): the STATS that answers, its contents as the node stands, and the queries that get none. That the
binding form has no CBS and EBS, as R22 lists it and against R7 and R86, is the model's choice (log entry 31). -/
def Obligations.QueryIsAnswered : Prop :=
  ∀ (t : Time) (station : Station) (target : BitVec 8) (clip : Clip) (s v : State),
    station ≠ s.opts.station → v = { s with now := t } → clip ≠ 0 →
    (s.node = .restarting ∨ s.node = .running ∧ target.toNat ≠ s.opts.station.val ∧ target ≠ 255 →
      exec (.queryBinding t station target clip) s = .next v ∧ exec (.queryNode t station target) s = .next v) ∧
    (s.node = .running → target.toNat = s.opts.station.val ∨ target = 255 →
      (∀ b r, s.holderOf clip = some b → r = s.binding b →
        exec (.queryBinding t station target clip) s = .next (v.offer (.bindingStats
          { clip := clip, number := some b, state := r.state, reason := r.reason, counters := r.counters
            live :=
              if r.state = .idle then none
              else some
                { source := r.terms.source, stream := r.terms.stream, role := r.coord.role, primary := r.coord.primary,
                  grade := r.acct.grade, effEnd := r.effEnd, through := r.coord.ownThrough } }))) ∧
      (s.holderOf clip = none →
        (target = 255 → exec (.queryBinding t station target clip) s = .next v) ∧
        (target ≠ 255 → exec (.queryBinding t station target clip) s = .next (v.offer (.bindingStats
          { clip := clip, number := none, state := .idle, reason := none, live := none, counters := {} })))) ∧
      exec (.queryNode t station target) s = .next
        ((v.offer (.nodeStats
          { node := .running, link := s.store.link, house := s.house.state, houseCounter := s.house.counter,
            housePeriod := s.house.period, freeCells := s.freeCells,
            active := (allBindings.filter (fun b => (s.binding b).state ≠ .idle)).length,
            counters := s.counters })).offer (.portStats
          { lines := allPorts.map (fun p => (s.port p).line), badPieces := allPorts.map (fun p => (s.port p).badPieces),
            lockLosses := allPorts.map (fun p => (s.port p).lockLosses) })))

/-! ## Node restart and withdrawal -/

/-- RESTART (R193) and RESTART_END (R194): the node aborts every binding with its DONE suppressed, so that those with
nothing in flight are IDLE at once, and shows itself in RESTARTING; once nothing is in flight it clears what R194 names,
keeps the rest, and runs again. That the end idles what is still in DRAINING (log entry 8) and that the next presence time
counts from the start of the millisecond (log entry 4) are the model's readings; the mark of a last attempt (log entry 30)
and the window of a binding in DRAINING (log entry 40) are its choices. -/
def Obligations.NodeRestarts : Prop :=
  ∀ (t : Time) (station : Station) (target : BitVec 8) (s : State),
    (station ≠ s.opts.station →
      (s.node = .running → target.toNat = s.opts.station.val → s.poolWhole → s.queuesLawful →
        ∃ u, exec (.restart t station target) s = .next u ∧ u.node = .restarting ∧
          u.counters = { s.counters with restarts := oneMore s.counters.restarts } ∧ s.allAborted u ∧ s.sameFlight u ∧
          (∃ kept, s.unbinding kept ∧ u.sources = s.sources.map (fun e => { e with bound := kept e.bound })) ∧
          u.ports = s.ports ∧ u.opts = s.opts ∧ u.house = s.house ∧ u.browse = s.browse ∧
          u.store.link = s.store.link ∧ u.store.failures = s.store.failures ∧ u.now = t ∧
          u.lane = { (s.offer (.presence u.presence)).lane with
            nextPresence := some (msTime t + ms s.opts.presence) }) ∧
      (s.node = .restarting ∨ s.node = .running ∧ target.toNat ≠ s.opts.station.val →
        exec (.restart t station target) s = .next { s with now := t })) ∧
    (s.node = .restarting → s.flightless →
      ∃ u, exec (.restartEnd t) s = .next u ∧
        u = { s with
          now := t, node := .running, sources := [], frames := [], freeCells := 16384
          bindings := u.bindings
          store := { s.store with
            live := [], fill := [], browse := [], currentLive := 0, currentFill := 0, currentBrowse := 0 }
          browse := { s.browse with occupancy := 0 }
          lane := { s.lane with
            queue := (if s.lane.tx = .sending then s.lane.queue.take 1 else []) ++ [.presence u.presence]
            attempts := 0
            tx := if s.lane.tx = .sending then .sending else .defer
            lastAttempt := decide (s.lane.tx = .sending)
            nextPresence := some (msTime t + ms s.opts.presence) } } ∧
        ∀ b : BindingNo, u.binding b =
          if (s.binding b).state = .idle then s.binding b else (s.binding b).afterIdle) ∧
    (s.node ≠ .restarting ∨ ¬ s.flightless → exec (.restartEnd t) s = .next { s with now := t })

/-- The entry to LISTENING (R33, R172, R173, R189, R192): a notice that bears the node's own number and is not its own echo,
be it a command of its own or an intact frame of any kind that no block takes, and an invalid option record. The node's own
echo changes nothing; what counts as the echo, and that a notice of another kind may come as a frame not delivered, is the
model's reading (log entry 23), and the window of a binding in DRAINING (log entry 40) and that no presence time is left (log
entry 1) are its choices. -/
def Obligations.NodeWithdraws : Prop :=
  ∀ (c : Instr) (t : Time) (s : State),
    c.time? = some t → s.poolWhole → s.queuesLawful →
    (∀ kind body, s.node = .running ∨ s.node = .restarting →
      (noticeOf c = some (s.opts.station, kind, body) ∨
        c = .noticeNotDelivered t (wireFrame s.opts.station kind body) ∧ body.length ≤ 64 ∧
          body.length ∈ allowedLengths kind.toNat) →
      ((∃ n rest, s.lane.tx = .sending ∧ s.lane.queue = n :: rest ∧ n.kind = kind ∧ n.body = body) →
        exec c s = .next { s with now := t }) ∧
      (¬ (∃ n rest, s.lane.tx = .sending ∧ s.lane.queue = n :: rest ∧ n.kind = kind ∧ n.body = body) →
        ∃ u, exec c s = .next u ∧ s.withdrawn u ∧ u.now = t)) ∧
    (∀ bytes : Vector Byte 71, c = .optionLoad t bytes → s.node = .loading →
      (crc16 (bytes.toList.take 69)).toNat ≠ field bytes.toList 69 2 ∨ field bytes.toList 0 1 % 32 = 0 →
      ∃ u, exec c s = .next u ∧ s.withdrawn u ∧ u.now = t)

/-- NOTICE_NOT_DELIVERED (R171, R174): the frames that are counted, and those that have no effect. That an intact frame of a
kind that is delivered has no effect when it comes as this command is the model's reading (log entry 23). -/
def Obligations.FramesAreHeard : Prop :=
  ∀ (t : Time) (station kind : Byte) (body covered frame : List Byte) (crc : BitVec 16) (s v : State),
    body.length ≤ 255 → covered = station :: kind :: BitVec.ofNat 8 body.length :: body →
    frame = [0x9B, 0x26] ++ covered ++ bytesOf 2 crc.toNat → v = { s with now := t } →
    (s.node = .loading ∨ s.node = .listening → exec (.noticeNotDelivered t frame) s = .next v) ∧
    (s.node = .running ∨ s.node = .restarting →
      (∀ n < frame.length, exec (.noticeNotDelivered t (frame.take n)) s = .next v) ∧
      (crc ≠ crc16 covered → exec (.noticeNotDelivered t frame) s = .next
        { v with counters := { s.counters with crcErrors := oneMore s.counters.crcErrors } }) ∧
      (crc = crc16 covered → 31 < station.toNat ∨ 64 < body.length ∨ body.length ∉ allowedLengths kind.toNat →
        exec (.noticeNotDelivered t frame) s = .next
          { v with counters := { s.counters with framingErrors := oneMore s.counters.framingErrors } }) ∧
      (crc = crc16 covered → station.toNat ≤ 31 → station.toNat ≠ s.opts.station.val → body.length ≤ 64 →
        body.length ∈ allowedLengths kind.toNat → exec (.noticeNotDelivered t frame) s = .next v))

/-! ## The peer lane -/

/-- IDLE_GAP, HOLDOFF_END, HOLDOFF_GIVEN_UP, NOTICE_SENT and COLLISION (R167 to R170, R179): the draw, the transmitter's
states, and what becomes of the head notice. In another state of the transmitter each changes nothing. The mark of a last
attempt is the model's own (log entry 30). -/
def Obligations.LaneAccess : Prop :=
  ∀ (t : Time) (s v : State) (l : Lane) (k : Nat) (r : BitVec 16),
    v = { s with now := t } → l = s.lane → k = l.attempts → r = galois l.lfsr →
    (l.tx = .defer → exec (.idleGap t) s = .next { v with lane :=
      if k = 0 then { l with tx := .sending }
      else if r.toNat % 2 ^ (min k 6) = 0 then { l with lfsr := r, tx := .sending }
      else { l with lfsr := r, tx := .holdoff (r.toNat % 2 ^ (min k 6)) } }) ∧
    (∀ n, l.tx = .holdoff n →
      exec (.holdoffEnd t) s = .next { v with lane := { l with tx := .sending } } ∧
      exec (.holdoffGivenUp t) s = .next { v with lane := { l with tx := .defer } }) ∧
    (l.tx = .sending →
      exec (.noticeSent t) s = .next { v with
        lane := l.headGone, counters := { s.counters with sent := oneMore s.counters.sent } } ∧
      (l.lastAttempt = true → exec (.collision t) s = .next { v with
        lane := l.headGone, counters := { s.counters with collisions := oneMore s.counters.collisions } }) ∧
      (l.lastAttempt = false → 15 ≤ k → exec (.collision t) s = .next { v with
        lane := l.headGone
        counters := { s.counters with
          collisions := oneMore s.counters.collisions, abandoned := oneMore s.counters.abandoned } }) ∧
      (l.lastAttempt = false → k < 15 → exec (.collision t) s = .next { v with
        lane := { l with attempts := k + 1, tx := .defer }
        counters := { s.counters with collisions := oneMore s.counters.collisions } })) ∧
    (l.tx ≠ .defer → exec (.idleGap t) s = .next v) ∧
    ((∀ n, l.tx ≠ .holdoff n) → exec (.holdoffEnd t) s = .next v ∧ exec (.holdoffGivenUp t) s = .next v) ∧
    (l.tx ≠ .sending → exec (.noticeSent t) s = .next v ∧ exec (.collision t) s = .next v)

/-- A notice that is offered to the queue (R175 to R178): replaced in place, merged, joined at the tail, joined over an
evicted one, or dropped. An EXTENT merges run by run, and what finds no room needs a place of its own; that the first run left
over leaves over those behind it is the model's reading (log entry 17). -/
def Obligations.NoticesAreQueued : Prop :=
  ∀ (n : Notice) (s : State) (l : Lane) (locked : List Notice),
    l = s.lane → locked = (if l.tx = .sending then l.queue.take 1 else []) →
    (s.node = .loading ∨ s.node = .listening → s.offer n = s) ∧
    (s.node = .running ∨ s.node = .restarting →
      (∀ pre old post, l.queue = locked ++ pre ++ old :: post → old.sameSubject n → (∀ q ∈ pre ++ post, ¬ q.sameSubject n) →
        s.offer n = { s with lane := { l with queue := locked ++ pre ++ n :: post } }) ∧
      (∀ pre clip role role' th th' (runs : List Run) (r q : Run) (post : List Notice),
        n = .extent clip role th [r] → l.queue = locked ++ pre ++ .extent clip role' th' (runs ++ [q]) :: post →
        (∀ x ∈ post, ¬ x.extentFor clip) → runs.length < 5 →
        s.offer n = { s with lane := { l with
          queue := locked ++ pre ++ .extent clip role th
            (if r.start = q.stop ∧ r.kind = q.kind then runs ++ [⟨q.start, r.stop, q.kind⟩] else runs ++ [q, r]) ::
            post } }) ∧
      (∀ pre clip role role' th th' (runs queued merged rest : List Run) (post : List Notice) (w : State),
        n = .extent clip role th runs → l.queue = locked ++ pre ++ .extent clip role' th' queued :: post →
        (∀ x ∈ post, ¬ x.extentFor clip) → runs = [] ∨ queued.length < 6 → mergesTo queued runs merged rest →
        w = { s with lane := { l with queue := locked ++ pre ++ .extent clip role th merged :: post } } →
        (rest = [] → s.offer n = w) ∧ (rest ≠ [] → w.placesTo (.extent clip role th rest) (s.offer n))) ∧
      (n.needsPlace (l.queue.drop locked.length) → s.placesTo n (s.offer n)))

/-! ## The Browse Unit and the Store Port -/

/-- BROWSE_DECISION (R155 to R161): chosen, oversize, thinned or built, by the first test that holds, for the oldest frame
that waits; nothing outside RUNNING and with none waiting. The model's choices: the oldest one is next (log entry 26), and E is
not tested (log entry 39). -/
def Obligations.BrowseDecision : Prop :=
  ∀ (t : Time) (b : BindingNo) (s : State) (r : Binding),
    r = s.binding b →
    (s.node ≠ .running ∨ r.undecided = [] → exec (.browseDecision t b) s = .next { s with now := t }) ∧
    (∀ (index : Nat) (rest : List Nat) (f : FrameRecord) (slot : Nat) (j : Fin 32) (w x y : State) (draw : Nat),
      s.node = .running → r.state.active = true → r.undecided = index :: rest → s.frame? index = some f →
      slot = f.spanStart / r.terms.divisor → j.val = slot % 32 →
      w = (s.atTime t).updBinding b (fun q => { q with undecided := rest }) →
      x = { w with browse := { w.browse with lfsr := galois w.browse.lfsr } } → draw = (galois w.browse.lfsr).toNat % 1024 →
      y = (if f.colour = some .yellow then x else w) →
      (r.ring[j] = some slot → exec (.browseDecision t b) s = .next (w.giveBack index)) ∧
      (r.ring[j] ≠ some slot →
        (r.terms.browseCells - 1 < f.base →
          exec (.browseDecision t b) s = .next ((w.updBinding b (fun q =>
            { q with
              ring := q.ring.set j (some slot)
              counters := { q.counters with browseHoles := oneMore q.counters.browseHoles } })).giveBack index)) ∧
        (f.base ≤ r.terms.browseCells - 1 →
          (f.colour = some .yellow ∧ draw < s.opts.thinning.getD (min 15 (s.browse.occupancy / 1024)) 0 →
            exec (.browseDecision t b) s = .next ((x.updBinding b (fun q =>
              q.counting (fun c => { c with thinned := oneMore c.thinned }))).giveBack index)) ∧
          (¬ (f.colour = some .yellow ∧ draw < s.opts.thinning.getD (min 15 (s.browse.occupancy / 1024)) 0) →
            exec (.browseDecision t b) s = .next
              ((y.updBinding b (fun q => { q with ring := q.ring.set j (some slot) })).handOver
                { cls := .browse, kind := .browse, binding := b, frame := index, start := slot, stop := slot + 1,
                  phase := .body, todo := List.range ((f.base + 63) / 64), left := (f.base + 63) / 64,
                  retried := [] })))))

/-- A job that is handed over (R127, R143) and a user that is given back (R64, R67). -/
def Obligations.JobsAreHandedOver : Prop :=
  (∀ (j : Job) (s : State),
    (s.store.link = .up → (s.store.queue j.cls).length < 256 →
      s.handOver j = { s with store := s.store.setQueue j.cls (s.store.queue j.cls ++ [j]) }) ∧
    (s.store.link ≠ .up ∨ 256 ≤ (s.store.queue j.cls).length → (s.binding j.binding).state.active = true →
      (j.kind = .essence → s.handOver j = ((s.ownGap j.binding j.start j.stop).updBinding j.binding (fun q =>
        q.counting (fun c => { c with failedJobs := oneMore c.failedJobs }))).giveBack j.frame) ∧
      (j.kind = .browse → s.handOver j = (s.updBinding j.binding (fun q =>
        q.counting (fun c => { c with browseHoles := oneMore c.browseHoles }))).giveBack j.frame))) ∧
  (∀ (index : Nat) (f : FrameRecord) (s : State),
    (s.frame? index = none → s.giveBack index = s) ∧
    (s.frame? index = some f →
      (f.state = .writing ∨ f.state = .released →
        s.giveBack index = if f.users ≤ 1 then s.freed f else s.withFrame index (fun x => { x with users := x.users - 1 })) ∧
      (f.users = 0 → s.releaseFrame index = s.freed f) ∧
      (f.users ≠ 0 → s.releaseFrame index = s.withFrame index (fun x => { x with state := .released }))))

/-- GRANT (R135 to R138): which classes are eligible, which of them wins, and the transaction that the winner issues: the
first ready one of its oldest job that has one (log entry 37 for one to be retried, log entry 44 for two browse jobs of one
slot), with its data as the frame's pieces and the records of section 11.5 give it (R128 to R130, R161, R162, R201). The free tag is the command's choice (log entry 3). -/
def Obligations.GrantIssues : Prop :=
  ∀ (t : Time) (g : Tag) (s : State),
    (∀ c : JobClass, s.eligible c = true ↔
      s.store.link = .up ∧ (∃ x : Tag, s.tag x = .free) ∧ s.node = .running ∧ (∃ j ∈ s.store.queue c, j.todo ≠ []) ∧
        (c = .browse → s.store.pacing = none)) ∧
    ((∀ c : JobClass, s.eligible c = false) → exec (.grant t g) s = .next { s with now := t }) ∧
    (∀ (c : JobClass) (pre post : List Job) (j : Job) (i : Nat) (rest : List Nat) (f : FrameRecord) (terms : Terms),
      s.queuesLawful → s.winsGrant c → s.tag g = .free → s.store.queue c = pre ++ j :: post → (∀ x ∈ pre, x.todo = []) →
      j.todo = i :: rest → s.frame? j.frame = some f → terms = (s.binding j.binding).terms →
      ∃ (u : State) (tx : Transaction), exec (.grant t g) s = .next u ∧ u = { s with now := t, store := u.store } ∧
        tx.owner = .job j.kind j.binding j.frame i ∧ tx.address = j.addressOf terms i ∧
        tx.retried = decide (i ∈ j.retried) ∧ tx.deadline = t + ms s.opts.storeTimeout ∧
        (∀ (payload : Nat → List Byte) (q : BitVec 8), f.cells = (List.range f.pieces).map (fun k => (k, payload k)) →
          f.base ≤ f.pieces → f.quality = some q → j.carries terms f payload q i tx.data) ∧
        u.store.tags = s.store.tags.set g (.busy tx) ∧
        u.store.queue c = (s.store.queue c).map (fun x =>
          if x.kind = j.kind ∧ x.frame = j.frame then { x with todo := rest } else x) ∧
        (∀ d, d ≠ c → u.store.queue d = s.store.queue d) ∧
        (∀ d, u.store.current d =
          if s.opts.strict then s.store.current d
          else s.store.current d + s.weightOf d -
            (if d = c then s.weightOf .live + s.weightOf .fill + s.weightOf .browse else 0)) ∧
        u.store.pacing =
          (if c = .browse ∧ tx.data.length * s.opts.pace ≠ 0 then some ⟨t, tx.data.length * s.opts.pace⟩
          else s.store.pacing) ∧
        u.store.link = s.store.link ∧ u.store.failures = s.store.failures ∧ u.store.nextProbe = s.store.nextProbe)

/-- STORE_COMPLETION with status OK (R93, R113, R132 to R134, R139, R145, R147, R149), and a completion whose tag is not busy
(R139). What an ignored outcome counts (log entry 18) and the flag of a probe (log entry 24) are the model's readings. -/
def Obligations.CompletionOk : Prop :=
  ∀ (t : Time) (g : Tag) (status : Status) (order : List Nat) (s : State),
    ((∀ tx, s.tag g ≠ .busy tx) → exec (.storeCompletion t g status order) s = .next { s with
      now := t, counters := { s.counters with stray := oneMore s.counters.stray } }) ∧
    (∀ (tx : Transaction) (w : State), s.tag g = .busy tx → w = (s.atTime t).tagged g .free 0 →
      (∀ (kind : JobKind) (b : BindingNo) (frame i : Nat) (j : Job),
        tx.owner = .job kind b frame i → s.store.jobOf kind frame = some j →
        (1 < j.left → exec (.storeCompletion t g .ok order) s = .next
          (w.jobNow j (fun x => { x with left := x.left - 1 }))) ∧
        (j.left ≤ 1 → j.phase = .body → exec (.storeCompletion t g .ok order) s = .next
          (w.jobNow j (fun x =>
            { x with
              phase := .records
              todo := List.range (if j.kind = .essence then (j.stop - j.start + 2047) / 2048 else 1)
              left := if j.kind = .essence then (j.stop - j.start + 2047) / 2048 else 1
              retried := [] }))) ∧
        (j.left ≤ 1 → j.phase = .records → (s.binding j.binding).state.active = true →
          (j.kind = .browse → exec (.storeCompletion t g .ok order) s = .next
            (((w.jobGone j).updBinding j.binding (fun q =>
              q.counting (fun c => { c with browseFrames := oneMore c.browseFrames }))).giveBack j.frame)) ∧
          (j.kind = .essence → (s.binding j.binding).coord.bounded → ∀ (v : State) (yields : Held → Bool),
            v = (w.jobGone j).insertExtent j.binding .ownWritten j.start j.stop →
            v.yieldsTo j.binding [(j.start, j.stop)] yields →
            exec (.storeCompletion t g .ok order) s = .next
              (((v.heldYielded j.binding yields).report j.binding ⟨j.start, j.stop, .written⟩).giveBack j.frame)))) ∧
      (∀ b, tx.owner = .ended b → exec (.storeCompletion t g .ok order) s = .next w) ∧
      (∀ kind b frame, tx.owner = .removed kind b frame →
        (w.removedFlies kind frame → exec (.storeCompletion t g .ok order) s = .next w) ∧
        (¬ w.removedFlies kind frame → exec (.storeCompletion t g .ok order) s = .next (w.giveBack frame))) ∧
      (∀ decides, tx.owner = .probe decides →
        (decides = true ∧ s.store.link = .failed →
          ∃ u, exec (.storeCompletion t g .ok order) s = .next u ∧
            State.regradedTo { w with store := { w.store with link := .up, nextProbe := none } } u ∧
            u.store.link = .up ∧ u.store.failures = 0 ∧ u.store.nextProbe = none ∧ u.tag g = .free ∧
            ∀ b : BindingNo, (s.binding b).state.active = true → (u.binding b).acct.grade = u.gradeOf b) ∧
        (decides = false ∨ s.store.link ≠ .failed →
          exec (.storeCompletion t g .ok order) s = .next ((s.atTime t).tagged g .free s.store.failures))))

/-- STORE_COMPLETION with RETRY and FAULT (R139 to R141, R143, R145 to R147, R149): a first RETRY puts the transaction in front
again; a second one and a FAULT fail it, and its job with it, and the third failure in a row of an UP link puts it in FAILED,
where every queued job fails before the grades fall (log entry 35). An ignored second RETRY is a failed transaction too. What
ignored outcomes do to the failure count is the model's reading (log entry 18). -/
def Obligations.CompletionFails : Prop :=
  ∀ (t : Time) (g : Tag) (status : Status) (order : List Nat) (s w : State) (tx : Transaction),
    s.tag g = .busy tx → status ≠ .ok → w = (s.atTime t).tagged g .free s.store.failures →
    (∀ (kind : JobKind) (b : BindingNo) (frame i : Nat) (j : Job),
      tx.owner = .job kind b frame i → s.store.jobOf kind frame = some j → status = .retry →
      (i ∉ j.retried → exec (.storeCompletion t g status order) s = .next
        { w.jobNow j (fun x => { x with todo := i :: x.todo, retried := i :: x.retried }) with
          counters := { s.counters with retries := oneMore s.counters.retries } }) ∧
      (i ∈ j.retried → ∃ u, exec (.storeCompletion t g status order) s = .next u ∧ w.failsTo u tx.owner)) ∧
    (status = .fault → (∀ decides, tx.owner ≠ .probe decides) →
      ∃ u, exec (.storeCompletion t g status order) s = .next u ∧ w.failsTo u tx.owner ∧
        u.counters.failed = oneMore s.counters.failed ∧ u.tag g = .free ∧
        u.store.failures = min 3 (s.store.failures + 1) ∧
        (∀ y tx', y ≠ g → s.tag y = .busy tx' → ∃ o, u.tag y = .busy { tx' with owner := o } ∧
          o.binding? = tx'.owner.binding?) ∧
        (2 ≤ s.store.failures → s.store.link = .up → u.store.downTo .failed ∧
          ∀ x : BindingNo, (s.binding x).state.active = true → (u.binding x).acct.grade = 0)) ∧
    (status = .retry →
      (∀ b, tx.owner = .ended b → exec (.storeCompletion t g status order) s = .next (w.retryIgnored tx.retried)) ∧
      (∀ kind b frame i, tx.owner = .job kind b frame i → s.store.jobOf kind frame = none →
        exec (.storeCompletion t g status order) s = .next (w.retryIgnored tx.retried)) ∧
      (∀ kind b frame, tx.owner = .removed kind b frame →
        (w.removedFlies kind frame →
          exec (.storeCompletion t g status order) s = .next (w.retryIgnored tx.retried)) ∧
        (¬ w.removedFlies kind frame →
          exec (.storeCompletion t g status order) s = .next ((w.giveBack frame).retryIgnored tx.retried)))) ∧
    (∀ decides, tx.owner = .probe decides → exec (.storeCompletion t g status order) s = .next w)

/-- STORE_TIMEOUT, TAG_RETIREMENT_END and PACING_HOLD_END (R137, R141 to R143, R145, R146, R149): the tag is retired for one
store timeout and its transaction fails, and its job with it; a retired tag and a pacing hold end at their times; before its
time each changes nothing. The model's choices: a tag is retired from the time the timeout is taken (log entry 19), a hold may
end within the microsecond in which its end lies (log entry 22), an ignored outcome counts as log entry 18 says, and where the
third failure takes the link down the queued jobs fail before the grades fall (log entry 35). -/
def Obligations.StoreTimers : Prop :=
  ∀ (t : Time) (g : Tag) (order : List Nat) (s : State),
    (∀ tx, s.tag g = .busy tx →
      (2 ^ 47 ≤ (t - tx.deadline).toNat → exec (.storeTimeout t g order) s = .next { s with now := t }) ∧
      ((t - tx.deadline).toNat < 2 ^ 47 →
        ∀ w : State,
          w = { (s.atTime t).tagged g (.retired (t + ms s.opts.storeTimeout)) s.store.failures with
            counters := { s.counters with timeouts := oneMore s.counters.timeouts } } →
          (∀ decides, tx.owner = .probe decides → exec (.storeTimeout t g order) s = .next w) ∧
          ((∀ decides, tx.owner ≠ .probe decides) →
            ∃ u, exec (.storeTimeout t g order) s = .next u ∧ w.failsTo u tx.owner ∧
              u.tag g = .retired (t + ms s.opts.storeTimeout) ∧ u.counters.timeouts = oneMore s.counters.timeouts ∧
              u.counters.failed = oneMore s.counters.failed ∧ u.store.failures = min 3 (s.store.failures + 1) ∧
              (2 ≤ s.store.failures → s.store.link = .up → u.store.downTo .failed)))) ∧
    ((∀ tx, s.tag g ≠ .busy tx) → exec (.storeTimeout t g order) s = .next { s with now := t }) ∧
    (∀ time, s.tag g = .retired time →
      exec (.tagRetirementEnd t g) s = .next
        (if (t - time).toNat < 2 ^ 47 then (s.atTime t).tagged g .free s.store.failures else { s with now := t })) ∧
    ((∀ time, s.tag g ≠ .retired time) → exec (.tagRetirementEnd t g) s = .next { s with now := t }) ∧
    (∀ h, s.store.pacing = some h →
      (h.ns < ((t - h.since).toNat + 1) * 1000 →
        exec (.pacingHoldEnd t) s = .next { s with now := t, store := { s.store with pacing := none } }) ∧
      (((t - h.since).toNat + 1) * 1000 ≤ h.ns → exec (.pacingHoldEnd t) s = .next { s with now := t })) ∧
    (s.store.pacing = none → exec (.pacingHoldEnd t) s = .next { s with now := t })

/-- SRDYN_HIGH, LINK_UP and PROBE_TIME (R93, R143, R144, R146, R147): the link follows SRDYN, its leaving UP fails every queued
job and its change moves the grades, and a FAILED link is probed or goes back to TRAINING. The model's choices: the jobs fail
before the grades fall (log entry 35), a probe in flight carries a flag (log entry 24), and the 1 ms of R144 is taken in
microseconds (log entry 4). -/
def Obligations.LinkFollowsReady : Prop :=
  ∀ (t : Time) (g : Tag) (order : List Nat) (s v : State), v = { s with now := t } →
    (∃ u, exec (.srdynHigh t order) s = .next u ∧ u.store.link = .training ∧ u.store.trainingSince = t ∧
      u.store.nextProbe = none ∧ u.store.failures = s.store.failures ∧
      (∀ x, s.tag x = .free → u.tag x = .free) ∧ (∀ x tx, s.tag x = .busy tx → tx.owner.binding? = none →
        u.tag x = .busy { tx with owner := .probe false }) ∧
      ∀ w : State,
        w = ({ v with
          store := { s.store with link := .training, trainingSince := t, nextProbe := none } } : State).tagsNow
            TagState.unprobed →
        (s.store.link = .up → u.store.downTo .training ∧ State.regradedTo w.queuesFailed u ∧
          ∀ b : BindingNo, (s.binding b).state.active = true → (u.binding b).acct.grade = 0) ∧
        (s.store.link ≠ .up → u = w)) ∧
    (s.store.link = .training → 1000 ≤ (t - s.store.trainingSince).toNat →
      ∃ u, exec (.linkUp t order) s = .next u ∧
        State.regradedTo { v with store := { s.store with link := .up, failures := 0, nextProbe := none } } u ∧
        u.store.link = .up ∧ u.store.failures = 0 ∧ u.store.tags = s.store.tags ∧
        ∀ b : BindingNo, (s.binding b).state.active = true → (u.binding b).acct.grade = u.gradeOf b) ∧
    (s.store.link ≠ .training ∨ (t - s.store.trainingSince).toNat < 1000 → exec (.linkUp t order) s = .next v) ∧
    (∀ time, s.store.nextProbe = some time →
      (s.store.link ≠ .failed ∨ 2 ^ 47 ≤ (t - time).toNat → exec (.probeTime t g) s = .next v) ∧
      (s.store.link = .failed → (t - time).toNat < 2 ^ 47 → ∀ w : State,
        w = { v with store := { s.store with nextProbe := some (time + ms 100) } } →
        (s.node ≠ .running → exec (.probeTime t g) s = .next w) ∧
        (s.node = .running →
          ((∀ b : BindingNo, (s.binding b).state.active = false) →
            exec (.probeTime t g) s = .next
              (({ w with
                store := { s.store with link := .training, trainingSince := t, nextProbe := none } } : State).tagsNow
                TagState.unprobed)) ∧
          (∀ b : BindingNo, (s.binding b).state.active = true → (∀ b' < b, (s.binding b').state.active = false) →
            ((∃ x tx, s.tag x = .busy tx ∧ tx.owner.binding? = none) ∨ (∀ x : Tag, s.tag x ≠ .free) →
              exec (.probeTime t g) s = .next w) ∧
            ((∀ x tx, s.tag x = .busy tx → tx.owner.binding? ≠ none) → s.tag g = .free →
              exec (.probeTime t g) s = .next (w.tagged g
                (.busy { owner := .probe true, retried := false, address := (s.binding b).terms.essenceBase, data := [],
                         deadline := t + ms s.opts.storeTimeout }) s.store.failures)))))) ∧
    (s.store.nextProbe = none → exec (.probeTime t g) s = .next v)

/-! ## The machine -/

/-- A step takes the command at the front of the queue; with none waiting the microsecond counter goes on (log entry 6). -/
def Obligations.StepTakesFront : Prop :=
  (∀ (c : Instr) (rest : List Instr) (s : State), step { s with pending := c :: rest } = exec c { s with pending := rest }) ∧
  (∀ s : State, s.pending = [] → step s = .next { s with now := s.now + 1 }) ∧
  (∀ (c : Instr) (s : State), ∃ u, exec c s = .next u ∧ u.pending = s.pending ∧ ∀ t, c.time? = some t → u.now = t)

/-- The state right after reset keeps every law below. -/
def Obligations.ResetIsLawful : Prop :=
  State.reset.poolWhole ∧ State.reset.metersBounded ∧ State.reset.tableLawful ∧ State.reset.endsAgree ∧
    State.reset.coordBounded ∧ State.reset.countersBounded ∧ State.reset.laneBounded ∧ State.reset.queuesLawful ∧
    State.reset.fltnAgrees ∧ State.reset.node = .loading ∧ State.reset.pending = []

/-- Every step keeps the cells and the frame records whole (R62, R63). -/
def Obligations.PoolIsKept : Prop :=
  ∀ s u : State, s.poolWhole → step s = .next u → u.poolWhole

/-- Every step keeps every bucket within its size (R88). -/
def Obligations.MetersAreKept : Prop :=
  ∀ s u : State, s.metersBounded → step s = .next u → u.metersBounded

/-- Every step keeps the Source Table and the bindings in agreement, and no clip or source is held twice (R11, R42, R43). -/
def Obligations.TableIsKept : Prop :=
  ∀ s u : State, s.tableLawful → step s = .next u → u.tableLawful

/-- Every step keeps E at the smaller of L and the stop position, the window at eight slots, the history at eight outcomes,
the map, the report buffer and the taker list within their sizes, and every counter at 65535 or below (R23, R58, R76, R89,
R99, R108, R122, R195). -/
def Obligations.SizesAreKept : Prop :=
  ∀ s u : State, s.endsAgree → s.coordBounded → s.countersBounded → step s = .next u →
    u.endsAgree ∧ u.coordBounded ∧ u.countersBounded

/-- Every step keeps the notice queue, the transmitter, the shift registers, the class queues and FLTN lawful (R135, R136,
R146, R159, R167, R170, R175, R191). -/
def Obligations.QueuesAreKept : Prop :=
  ∀ s u : State, s.laneBounded → s.queuesLawful → s.fltnAgrees → step s = .next u →
    u.laneBounded ∧ u.queuesLawful ∧ u.fltnAgrees

/-! ## Formats, placement and maps -/

/-- A command that is a notice, put on the lane and heard, is that command again (R171, R197 to R200). -/
def Obligations.NoticesRoundTrip : Prop :=
  ∀ (i : Instr) (t : Time) (station : Station) (kind : Byte) (body : List Byte),
    i.wf = true → i.time? = some t → noticeOf i = some (station, kind, body) →
    hear (wireFrame station kind body) = .intact station kind body ∧ ∃ order, commandOf t station order kind body = some i

/-- The spans of consecutive frame counts tile the positions (R72 to R74, R78). -/
def Obligations.SpansTile : Prop :=
  ∀ t : Terms, startOf t 0 = 0 ∧
    (∀ d, startOf t d ≤ startOf t (d + 1)) ∧
    (∀ d, startOf t d = (if d = 0 ∨ mapOf t (d - 1) < mapOf t d then mapOf t d else mapOf t d + 1)) ∧
    (∀ d, startOf t d = startOf t (d + 1) ↔ 1 ≤ d ∧ mapOf t (d - 1) = mapOf t d) ∧
    (∀ p, p < startOf t (2 ^ 31) → ∃ d < 2 ^ 31, startOf t d ≤ p ∧ p < startOf t (d + 1) ∧
      ∀ d' < 2 ^ 31, startOf t d' ≤ p → p < startOf t (d' + 1) → d' = d) ∧
    (∀ d effEnd, classOf t effEnd d =
      if startOf t d = startOf t (d + 1) then .drop else if effEnd ≤ startOf t d then .beyond else .store)

/-- An insertion into a map (R106 to R108): inside the range a position takes the kind unless it holds one of equal or
higher precedence, outside it nothing changes, and the map keeps its form; only the lowest positions of a full map are
forgotten. -/
def Obligations.InsertionKeepsPrecedence : Prop :=
  ∀ (m m' : List Extent) (e a b : Nat) (k : ExtentKind),
    mapOrdered m → m.length ≤ 64 → m' = insertInto e k a b m →
    mapOrdered m' ∧ m'.length ≤ 64 ∧
    ∃ cut, (cut = 0 ∨ m'.length = 64) ∧
      ∀ p, kindAt m' p =
        if p < cut then none
        else if a ≤ p ∧ p < b ∧ p < e then
          match kindAt m p with
          | none => some k
          | some x => if x.rank < k.rank then some k else some x
        else kindAt m p
end

