-- ==== Sys2Proof/Laws/Lists.lean ====
section
/-! SUPPORT. What the shared operations over numbers, bytes and lists do, said once for each: choices, clamps, the two
shift registers, byte order, ordered insertion, the window, the covering test and the tags. -/

namespace Sys2Proof.Machine

/-! ### Choices and numbers -/

/-- Whatever is picked, an arrangement holds the same elements. -/
theorem arrange_perm {α : Type} (order : List Nat) : ∀ l : List α, (arrange order l).Perm l := by
  induction order with
  | nil => intro l; exact .refl l
  | cons i is ih =>
    intro l
    simp only [arrange]
    split
    · rename_i x h
      obtain ⟨hi, rfl⟩ := List.getElem?_eq_some_iff.mp h
      exact ((ih (l.eraseIdx i)).cons _).trans (List.getElem_cons_eraseIdx_perm hi)
    · exact ih l

theorem clampTo_eq (lo hi x : Nat) (h : lo ≤ hi) :
    clampTo lo hi x = if x < lo then lo else if hi < x then hi else x := by
  unfold clampTo; split <;> [skip; split] <;> omega

theorem le_clampTo (lo hi x : Nat) : lo ≤ clampTo lo hi x := Nat.le_max_left _ _

theorem clampTo_le (lo hi x : Nat) (h : lo ≤ hi) : clampTo lo hi x ≤ hi := by unfold clampTo; omega

theorem bump_le (n k : Nat) : bump n k ≤ 65535 := Nat.min_le_left _ _

theorem bump_bump (n j k : Nat) : bump (bump n j) k = bump n (j + k) := by simp only [bump, Config.counterMax]; omega

theorem bump_one (n : Nat) : bump n 1 = oneMore n := rfl

/-- The approach of R60, R158 and R185 as a division that truncates toward zero. -/
theorem approach_eq (m x k : Nat) : (approach m x k : Int) = (m : Int) + Int.tdiv ((x : Int) - m) k := by
  unfold approach
  split
  · rename_i h
    rw [show (x : Int) - m = ((x - m : Nat) : Int) by omega, ← Int.ofNat_tdiv]; push_cast; omega
  · rename_i h
    have hle : (m - x) / k ≤ m - x := Nat.div_le_self _ _
    rw [show (x : Int) - m = -((m - x : Nat) : Int) by omega, Int.neg_tdiv, ← Int.ofNat_tdiv]
    generalize (m - x) / k = q at hle ⊢
    omega

theorem approach_le (m x k b : Nat) (hm : m ≤ b) (hx : x ≤ b) : approach m x k ≤ b := by
  unfold approach
  have h := Nat.div_le_self (x - m) k
  generalize (x - m) / k = q at h ⊢
  generalize (m - x) / k = r
  split <;> omega

theorem le_approach (m x k b : Nat) (hm : b ≤ m) (hx : b ≤ x) : b ≤ approach m x k := by
  unfold approach
  have h := Nat.div_le_self (m - x) k
  generalize (m - x) / k = q at h ⊢
  generalize (x - m) / k = r
  split <;> omega

/-! ### The shift registers (R159, R168) -/

theorem lfsrStep_eq_galois (r : BitVec 16) : lfsrStep r = galois r := rfl

/-- A register that is not 0 never reaches 0. -/
theorem lfsrStep_ne_zero (r : BitVec 16) (h : r ≠ 0) : lfsrStep r ≠ 0 := by
  unfold lfsrStep
  split
  · intro k
    have h15 := congrArg (fun x : BitVec 16 => x.getLsbD 15) k
    simp at h15
  · rename_i h0
    intro k
    apply h
    apply BitVec.eq_of_getLsbD_eq
    intro i hi
    cases i with
    | zero => simpa using h0
    | succ i =>
      have hi' := congrArg (fun x : BitVec 16 => x.getLsbD i) k
      simpa [Nat.add_comm] using hi'

/-! ### Byte order (R197) -/

@[simp] theorem length_bytesOf (n v : Nat) : (bytesOf n v).length = n := by
  induction n with
  | zero => rfl
  | succ n ih => simp [bytesOf, ih]

theorem foldl_value (l : List Byte) (a : Nat) :
    l.foldl (fun acc x => acc * 256 + x.toNat) a = a * 256 ^ l.length + valueOf l := by
  unfold valueOf
  induction l generalizing a with
  | nil => simp
  | cons x xs ih =>
    simp only [List.foldl_cons, List.length_cons]
    rw [ih, ih (0 * 256 + x.toNat)]
    ring

/-- The bytes of a value that fits read as that value. -/
theorem valueOf_bytesOf (n v : Nat) : valueOf (bytesOf n v) = v % 256 ^ n := by
  induction n with
  | zero => simp [bytesOf, valueOf, Nat.mod_one]
  | succ n ih =>
    have h : valueOf (bytesOf (n + 1) v) = (v / 256 ^ n % 256) * 256 ^ n + valueOf (bytesOf n v) := by
      conv_lhs => unfold bytesOf valueOf
      rw [List.foldl_cons, foldl_value]
      simp
    rw [h, ih, pow_succ, Nat.mod_mul, Nat.mul_comm, Nat.add_comm]

/-! ### Ordered insertion -/

theorem insertFrame_perm (f : FrameRecord) (l : List FrameRecord) : (insertFrame f l).Perm (f :: l) := by
  induction l with
  | nil => exact .refl _
  | cons x xs ih =>
    simp only [insertFrame]
    split
    · exact .refl _
    · exact (ih.cons x).trans (.swap f x xs)

theorem insertHeld_perm (h : Held) (l : List Held) : (insertHeld h l).Perm (h :: l) := by
  induction l with
  | nil => exact .refl _
  | cons x xs ih =>
    simp only [insertHeld]
    split
    · exact .refl _
    · exact (ih.cons x).trans (.swap h x xs)

theorem insertCell_perm (i : Nat) (p : List Byte) (l : List (Nat × List Byte)) :
    (insertCell i p l).Perm ((i, p) :: l) := by
  induction l with
  | nil => exact .refl _
  | cons x xs ih =>
    simp only [insertCell]
    split
    · exact .refl _
    · exact (ih.cons x).trans (.swap (i, p) x xs)

/-! ### The window (R44, R46) -/

theorem closedPrefix_eq (l : List Slot) : closedPrefix l = (l.takeWhile Slot.isClosed).length := by
  induction l with
  | nil => rfl
  | cons x xs ih => cases x <;> simp [closedPrefix, Slot.isClosed, List.takeWhile_cons, ih]

theorem closedPrefix_le (l : List Slot) : closedPrefix l ≤ l.length := by
  rw [closedPrefix_eq]; exact (List.takeWhile_prefix _).length_le

theorem length_shiftSlots (k : Nat) (l : List Slot) (h : l.length = 8) : (shiftSlots k l).length = 8 := by
  simp [shiftSlots, Config.windowSlots, h]; omega

/-! ### The covering test (R48, R109) -/

theorem kindAt_below {x : Extent} {m : List Extent} (h : mapOrdered (x :: m)) {p : Nat} (hp : p < x.start) :
    kindAt (x :: m) p = none := by
  induction m generalizing x with
  | nil => simp [kindAt]; omega
  | cons y ys ih =>
    obtain ⟨h1, h2, -, h4⟩ := h
    rw [kindAt, if_neg (by omega)]
    exact ih h4 (by omega)

theorem mapOrdered_tail {x : Extent} {m : List Extent} (h : mapOrdered (x :: m)) : mapOrdered m := by
  cases m with
  | nil => trivial
  | cons y ys => exact h.2.2.2

theorem kindAt_gap {x : Extent} {m : List Extent} (h : mapOrdered (x :: m)) {p : Nat} (hp : p < x.stop) :
    kindAt m p = none := by
  cases m with
  | nil => rfl
  | cons y ys => exact kindAt_below h.2.2.2 (by have := h.2.1; omega)

theorem le_reachOf (test : ExtentKind → Bool) (m : List Extent) : ∀ a, a ≤ reachOf test a m := by
  induction m with
  | nil => intro a; exact Nat.le_refl a
  | cons x xs ih =>
    intro a
    simp only [reachOf]
    split
    · exact ih a
    · split
      · exact Nat.le_trans (by omega) (ih x.stop)
      · exact Nat.le_refl a

/-- Every position from `a` up to what is reached lies in an extent whose kind passes the test. -/
theorem reachOf_passes (test : ExtentKind → Bool) (m : List Extent) (h : mapOrdered m) :
    ∀ a p, a ≤ p → p < reachOf test a m → ∃ k, kindAt m p = some k ∧ test k = true := by
  induction m with
  | nil => intro a p h1 h2; simp only [reachOf] at h2; omega
  | cons x xs ih =>
    intro a p h1 h2
    simp only [reachOf] at h2
    split at h2
    · rename_i hx
      obtain ⟨k, hk, ht⟩ := ih (mapOrdered_tail h) a p h1 h2
      exact ⟨k, by rw [kindAt, if_neg (by omega), hk], ht⟩
    · split at h2
      · rename_i hx ht
        by_cases hp : p < x.stop
        · exact ⟨x.kind, by rw [kindAt, if_pos ⟨by omega, hp⟩], ht.2⟩
        · obtain ⟨k, hk, htk⟩ := ih (mapOrdered_tail h) x.stop p (by omega) h2
          exact ⟨k, by rw [kindAt, if_neg (by omega), hk], htk⟩
      · omega

/-- The position reached lies in no extent whose kind passes the test. -/
theorem reachOf_stops (test : ExtentKind → Bool) (m : List Extent) (h : mapOrdered m) :
    ∀ a k, kindAt m (reachOf test a m) = some k → test k = false := by
  induction m with
  | nil => intro a k hk; simp [kindAt] at hk
  | cons x xs ih =>
    intro a k hk
    have hxs := mapOrdered_tail h
    simp only [reachOf] at hk
    split at hk
    · rename_i hx
      rw [kindAt, if_neg (by have := le_reachOf test xs a; omega)] at hk
      exact ih hxs a k hk
    · split at hk
      · rename_i hx ht
        rw [kindAt, if_neg (by have := le_reachOf test xs x.stop; omega)] at hk
        exact ih hxs x.stop k hk
      · rename_i hx ht
        by_cases hs : x.start ≤ a
        · rw [kindAt, if_pos ⟨hs, by omega⟩] at hk
          simp only [Option.some.injEq] at hk
          rw [← hk]
          simpa [hs] using ht
        · rw [kindAt_below h (by omega)] at hk
          simp at hk

theorem covers_iff (k : ExtentKind) : k.covers = true ↔ k = .ownWritten ∨ k = .peerWritten := by
  cases k <;> simp [ExtentKind.covers]

/-- The covering test says that every position of the range is stored. -/
theorem coveredIn_iff (m : List Extent) (h : mapOrdered m) (a b : Nat) : coveredIn m a b = true ↔ stored m a b := by
  simp only [coveredIn, decide_eq_true_eq]
  constructor
  · intro hb p h1 h2
    obtain ⟨k, hk, ht⟩ := reachOf_passes ExtentKind.covers m h a p h1 (by omega)
    rw [hk]
    rcases (covers_iff k).mp ht with rfl | rfl <;> simp
  · intro hs
    by_contra hb
    have hle := le_reachOf ExtentKind.covers m a
    have hk := hs (reachOf ExtentKind.covers a m) hle (by omega)
    rcases hk with hk | hk <;> exact absurd (reachOf_stops ExtentKind.covers m h a _ hk) (by simp [ExtentKind.covers])

/-! ### Bindings, ports and tags -/

theorem mem_allBindings (b : BindingNo) : b ∈ allBindings := by revert b; decide
theorem mem_allPorts (p : PortNo) : p ∈ allPorts := by revert p; decide
theorem mem_allTags (g : Tag) : g ∈ allTags := by revert g; decide
theorem nodup_allBindings : allBindings.Nodup := by decide
theorem nodup_allTags : allTags.Nodup := by decide

@[simp] theorem State.setTag_tag (s : State) (g x : Tag) (v : TagState) :
    (s.setTag g v).tag x = if x = g then v else s.tag x := by
  have h : (s.setTag g v).tag x = (s.store.tags.set g.val v g.isLt)[x.val] := rfl
  rw [h, Vector.getElem_set]
  by_cases hx : x = g
  · subst hx; simp
  · have hv : g.val ≠ x.val := fun k => hx (Fin.ext k.symm)
    rw [if_neg hx, if_neg hv]; rfl

theorem foldl_setTag (f : TagState → TagState) (l : List Tag) (hl : l.Nodup) :
    ∀ (s : State) (x : Tag), (l.foldl (fun s g => s.setTag g (f (s.tag g))) s).tag x =
      if x ∈ l then f (s.tag x) else s.tag x := by
  induction l with
  | nil => intro s x; simp
  | cons g gs ih =>
    intro s x
    obtain ⟨hg, hgs⟩ := List.nodup_cons.mp hl
    rw [List.foldl_cons, ih hgs]
    by_cases hx : x = g
    · subst hx; simp [hg]
    · simp [hx]

/-- A change of every tag changes each of them. -/
@[simp] theorem State.updTags_tag (s : State) (f : TagState → TagState) (g : Tag) :
    (s.updTags f).tag g = f (s.tag g) := by
  unfold State.updTags
  rw [foldl_setTag f allTags nodup_allTags]
  simp [mem_allTags]

end Sys2Proof.Machine
end

