-- ==== Sys2Proof/Laws/State.lean ====
section
/-! SUPPORT. The small lemmas of the state's updates: one for each field that an update leaves alone or sets, true by
unfolding the update once, so that no later proof unfolds a record update. -/

namespace Sys2Proof.Machine

variable (s : State)

/-! ### atTime -/

@[simp] theorem State.atTime_node (t : Time) : (s.atTime t).node = s.node := rfl
@[simp] theorem State.atTime_fltn (t : Time) : (s.atTime t).fltn = s.fltn := rfl
@[simp] theorem State.atTime_loaded (t : Time) : (s.atTime t).loaded = s.loaded := rfl
@[simp] theorem State.atTime_opts (t : Time) : (s.atTime t).opts = s.opts := rfl
@[simp] theorem State.atTime_house (t : Time) : (s.atTime t).house = s.house := rfl
@[simp] theorem State.atTime_ports (t : Time) : (s.atTime t).ports = s.ports := rfl
@[simp] theorem State.atTime_sources (t : Time) : (s.atTime t).sources = s.sources := rfl
@[simp] theorem State.atTime_bindings (t : Time) : (s.atTime t).bindings = s.bindings := rfl
@[simp] theorem State.atTime_freeCells (t : Time) : (s.atTime t).freeCells = s.freeCells := rfl
@[simp] theorem State.atTime_frames (t : Time) : (s.atTime t).frames = s.frames := rfl
@[simp] theorem State.atTime_store (t : Time) : (s.atTime t).store = s.store := rfl
@[simp] theorem State.atTime_browse (t : Time) : (s.atTime t).browse = s.browse := rfl
@[simp] theorem State.atTime_lane (t : Time) : (s.atTime t).lane = s.lane := rfl
@[simp] theorem State.atTime_counters (t : Time) : (s.atTime t).counters = s.counters := rfl
@[simp] theorem State.atTime_pending (t : Time) : (s.atTime t).pending = s.pending := rfl
@[simp] theorem State.atTime_now (t : Time) : (s.atTime t).now = t := rfl

/-! ### updBinding -/

@[simp] theorem State.updBinding_node (b : BindingNo) (f : Binding → Binding) : (s.updBinding b f).node = s.node := rfl
@[simp] theorem State.updBinding_fltn (b : BindingNo) (f : Binding → Binding) : (s.updBinding b f).fltn = s.fltn := rfl
@[simp] theorem State.updBinding_now (b : BindingNo) (f : Binding → Binding) : (s.updBinding b f).now = s.now := rfl
@[simp] theorem State.updBinding_loaded (b : BindingNo) (f : Binding → Binding) : (s.updBinding b f).loaded = s.loaded := rfl
@[simp] theorem State.updBinding_opts (b : BindingNo) (f : Binding → Binding) : (s.updBinding b f).opts = s.opts := rfl
@[simp] theorem State.updBinding_house (b : BindingNo) (f : Binding → Binding) : (s.updBinding b f).house = s.house := rfl
@[simp] theorem State.updBinding_ports (b : BindingNo) (f : Binding → Binding) : (s.updBinding b f).ports = s.ports := rfl
@[simp] theorem State.updBinding_sources (b : BindingNo) (f : Binding → Binding) : (s.updBinding b f).sources = s.sources := rfl
@[simp] theorem State.updBinding_freeCells (b : BindingNo) (f : Binding → Binding) : (s.updBinding b f).freeCells = s.freeCells := rfl
@[simp] theorem State.updBinding_frames (b : BindingNo) (f : Binding → Binding) : (s.updBinding b f).frames = s.frames := rfl
@[simp] theorem State.updBinding_store (b : BindingNo) (f : Binding → Binding) : (s.updBinding b f).store = s.store := rfl
@[simp] theorem State.updBinding_browse (b : BindingNo) (f : Binding → Binding) : (s.updBinding b f).browse = s.browse := rfl
@[simp] theorem State.updBinding_lane (b : BindingNo) (f : Binding → Binding) : (s.updBinding b f).lane = s.lane := rfl
@[simp] theorem State.updBinding_counters (b : BindingNo) (f : Binding → Binding) : (s.updBinding b f).counters = s.counters := rfl
@[simp] theorem State.updBinding_pending (b : BindingNo) (f : Binding → Binding) : (s.updBinding b f).pending = s.pending := rfl

/-! ### updAsm -/

@[simp] theorem State.updAsm_node (b : BindingNo) (f : Assembly → Assembly) : (s.updAsm b f).node = s.node := rfl
@[simp] theorem State.updAsm_fltn (b : BindingNo) (f : Assembly → Assembly) : (s.updAsm b f).fltn = s.fltn := rfl
@[simp] theorem State.updAsm_now (b : BindingNo) (f : Assembly → Assembly) : (s.updAsm b f).now = s.now := rfl
@[simp] theorem State.updAsm_loaded (b : BindingNo) (f : Assembly → Assembly) : (s.updAsm b f).loaded = s.loaded := rfl
@[simp] theorem State.updAsm_opts (b : BindingNo) (f : Assembly → Assembly) : (s.updAsm b f).opts = s.opts := rfl
@[simp] theorem State.updAsm_house (b : BindingNo) (f : Assembly → Assembly) : (s.updAsm b f).house = s.house := rfl
@[simp] theorem State.updAsm_ports (b : BindingNo) (f : Assembly → Assembly) : (s.updAsm b f).ports = s.ports := rfl
@[simp] theorem State.updAsm_sources (b : BindingNo) (f : Assembly → Assembly) : (s.updAsm b f).sources = s.sources := rfl
@[simp] theorem State.updAsm_freeCells (b : BindingNo) (f : Assembly → Assembly) : (s.updAsm b f).freeCells = s.freeCells := rfl
@[simp] theorem State.updAsm_frames (b : BindingNo) (f : Assembly → Assembly) : (s.updAsm b f).frames = s.frames := rfl
@[simp] theorem State.updAsm_store (b : BindingNo) (f : Assembly → Assembly) : (s.updAsm b f).store = s.store := rfl
@[simp] theorem State.updAsm_browse (b : BindingNo) (f : Assembly → Assembly) : (s.updAsm b f).browse = s.browse := rfl
@[simp] theorem State.updAsm_lane (b : BindingNo) (f : Assembly → Assembly) : (s.updAsm b f).lane = s.lane := rfl
@[simp] theorem State.updAsm_counters (b : BindingNo) (f : Assembly → Assembly) : (s.updAsm b f).counters = s.counters := rfl
@[simp] theorem State.updAsm_pending (b : BindingNo) (f : Assembly → Assembly) : (s.updAsm b f).pending = s.pending := rfl

/-! ### updAcct -/

@[simp] theorem State.updAcct_node (b : BindingNo) (f : Accounting → Accounting) : (s.updAcct b f).node = s.node := rfl
@[simp] theorem State.updAcct_fltn (b : BindingNo) (f : Accounting → Accounting) : (s.updAcct b f).fltn = s.fltn := rfl
@[simp] theorem State.updAcct_now (b : BindingNo) (f : Accounting → Accounting) : (s.updAcct b f).now = s.now := rfl
@[simp] theorem State.updAcct_loaded (b : BindingNo) (f : Accounting → Accounting) : (s.updAcct b f).loaded = s.loaded := rfl
@[simp] theorem State.updAcct_opts (b : BindingNo) (f : Accounting → Accounting) : (s.updAcct b f).opts = s.opts := rfl
@[simp] theorem State.updAcct_house (b : BindingNo) (f : Accounting → Accounting) : (s.updAcct b f).house = s.house := rfl
@[simp] theorem State.updAcct_ports (b : BindingNo) (f : Accounting → Accounting) : (s.updAcct b f).ports = s.ports := rfl
@[simp] theorem State.updAcct_sources (b : BindingNo) (f : Accounting → Accounting) : (s.updAcct b f).sources = s.sources := rfl
@[simp] theorem State.updAcct_freeCells (b : BindingNo) (f : Accounting → Accounting) : (s.updAcct b f).freeCells = s.freeCells := rfl
@[simp] theorem State.updAcct_frames (b : BindingNo) (f : Accounting → Accounting) : (s.updAcct b f).frames = s.frames := rfl
@[simp] theorem State.updAcct_store (b : BindingNo) (f : Accounting → Accounting) : (s.updAcct b f).store = s.store := rfl
@[simp] theorem State.updAcct_browse (b : BindingNo) (f : Accounting → Accounting) : (s.updAcct b f).browse = s.browse := rfl
@[simp] theorem State.updAcct_lane (b : BindingNo) (f : Accounting → Accounting) : (s.updAcct b f).lane = s.lane := rfl
@[simp] theorem State.updAcct_counters (b : BindingNo) (f : Accounting → Accounting) : (s.updAcct b f).counters = s.counters := rfl
@[simp] theorem State.updAcct_pending (b : BindingNo) (f : Accounting → Accounting) : (s.updAcct b f).pending = s.pending := rfl

/-! ### updCoord -/

@[simp] theorem State.updCoord_node (b : BindingNo) (f : Coordination → Coordination) : (s.updCoord b f).node = s.node := rfl
@[simp] theorem State.updCoord_fltn (b : BindingNo) (f : Coordination → Coordination) : (s.updCoord b f).fltn = s.fltn := rfl
@[simp] theorem State.updCoord_now (b : BindingNo) (f : Coordination → Coordination) : (s.updCoord b f).now = s.now := rfl
@[simp] theorem State.updCoord_loaded (b : BindingNo) (f : Coordination → Coordination) : (s.updCoord b f).loaded = s.loaded := rfl
@[simp] theorem State.updCoord_opts (b : BindingNo) (f : Coordination → Coordination) : (s.updCoord b f).opts = s.opts := rfl
@[simp] theorem State.updCoord_house (b : BindingNo) (f : Coordination → Coordination) : (s.updCoord b f).house = s.house := rfl
@[simp] theorem State.updCoord_ports (b : BindingNo) (f : Coordination → Coordination) : (s.updCoord b f).ports = s.ports := rfl
@[simp] theorem State.updCoord_sources (b : BindingNo) (f : Coordination → Coordination) : (s.updCoord b f).sources = s.sources := rfl
@[simp] theorem State.updCoord_freeCells (b : BindingNo) (f : Coordination → Coordination) : (s.updCoord b f).freeCells = s.freeCells := rfl
@[simp] theorem State.updCoord_frames (b : BindingNo) (f : Coordination → Coordination) : (s.updCoord b f).frames = s.frames := rfl
@[simp] theorem State.updCoord_store (b : BindingNo) (f : Coordination → Coordination) : (s.updCoord b f).store = s.store := rfl
@[simp] theorem State.updCoord_browse (b : BindingNo) (f : Coordination → Coordination) : (s.updCoord b f).browse = s.browse := rfl
@[simp] theorem State.updCoord_lane (b : BindingNo) (f : Coordination → Coordination) : (s.updCoord b f).lane = s.lane := rfl
@[simp] theorem State.updCoord_counters (b : BindingNo) (f : Coordination → Coordination) : (s.updCoord b f).counters = s.counters := rfl
@[simp] theorem State.updCoord_pending (b : BindingNo) (f : Coordination → Coordination) : (s.updCoord b f).pending = s.pending := rfl

/-! ### setSlot -/

@[simp] theorem State.setSlot_node (b : BindingNo) (i : Nat) (v : Slot) : (s.setSlot b i v).node = s.node := rfl
@[simp] theorem State.setSlot_fltn (b : BindingNo) (i : Nat) (v : Slot) : (s.setSlot b i v).fltn = s.fltn := rfl
@[simp] theorem State.setSlot_now (b : BindingNo) (i : Nat) (v : Slot) : (s.setSlot b i v).now = s.now := rfl
@[simp] theorem State.setSlot_loaded (b : BindingNo) (i : Nat) (v : Slot) : (s.setSlot b i v).loaded = s.loaded := rfl
@[simp] theorem State.setSlot_opts (b : BindingNo) (i : Nat) (v : Slot) : (s.setSlot b i v).opts = s.opts := rfl
@[simp] theorem State.setSlot_house (b : BindingNo) (i : Nat) (v : Slot) : (s.setSlot b i v).house = s.house := rfl
@[simp] theorem State.setSlot_ports (b : BindingNo) (i : Nat) (v : Slot) : (s.setSlot b i v).ports = s.ports := rfl
@[simp] theorem State.setSlot_sources (b : BindingNo) (i : Nat) (v : Slot) : (s.setSlot b i v).sources = s.sources := rfl
@[simp] theorem State.setSlot_freeCells (b : BindingNo) (i : Nat) (v : Slot) : (s.setSlot b i v).freeCells = s.freeCells := rfl
@[simp] theorem State.setSlot_frames (b : BindingNo) (i : Nat) (v : Slot) : (s.setSlot b i v).frames = s.frames := rfl
@[simp] theorem State.setSlot_store (b : BindingNo) (i : Nat) (v : Slot) : (s.setSlot b i v).store = s.store := rfl
@[simp] theorem State.setSlot_browse (b : BindingNo) (i : Nat) (v : Slot) : (s.setSlot b i v).browse = s.browse := rfl
@[simp] theorem State.setSlot_lane (b : BindingNo) (i : Nat) (v : Slot) : (s.setSlot b i v).lane = s.lane := rfl
@[simp] theorem State.setSlot_counters (b : BindingNo) (i : Nat) (v : Slot) : (s.setSlot b i v).counters = s.counters := rfl
@[simp] theorem State.setSlot_pending (b : BindingNo) (i : Nat) (v : Slot) : (s.setSlot b i v).pending = s.pending := rfl

/-! ### updPort -/

@[simp] theorem State.updPort_node (p : PortNo) (f : Port → Port) : (s.updPort p f).node = s.node := rfl
@[simp] theorem State.updPort_fltn (p : PortNo) (f : Port → Port) : (s.updPort p f).fltn = s.fltn := rfl
@[simp] theorem State.updPort_now (p : PortNo) (f : Port → Port) : (s.updPort p f).now = s.now := rfl
@[simp] theorem State.updPort_loaded (p : PortNo) (f : Port → Port) : (s.updPort p f).loaded = s.loaded := rfl
@[simp] theorem State.updPort_opts (p : PortNo) (f : Port → Port) : (s.updPort p f).opts = s.opts := rfl
@[simp] theorem State.updPort_house (p : PortNo) (f : Port → Port) : (s.updPort p f).house = s.house := rfl
@[simp] theorem State.updPort_sources (p : PortNo) (f : Port → Port) : (s.updPort p f).sources = s.sources := rfl
@[simp] theorem State.updPort_bindings (p : PortNo) (f : Port → Port) : (s.updPort p f).bindings = s.bindings := rfl
@[simp] theorem State.updPort_freeCells (p : PortNo) (f : Port → Port) : (s.updPort p f).freeCells = s.freeCells := rfl
@[simp] theorem State.updPort_frames (p : PortNo) (f : Port → Port) : (s.updPort p f).frames = s.frames := rfl
@[simp] theorem State.updPort_store (p : PortNo) (f : Port → Port) : (s.updPort p f).store = s.store := rfl
@[simp] theorem State.updPort_browse (p : PortNo) (f : Port → Port) : (s.updPort p f).browse = s.browse := rfl
@[simp] theorem State.updPort_lane (p : PortNo) (f : Port → Port) : (s.updPort p f).lane = s.lane := rfl
@[simp] theorem State.updPort_counters (p : PortNo) (f : Port → Port) : (s.updPort p f).counters = s.counters := rfl
@[simp] theorem State.updPort_pending (p : PortNo) (f : Port → Port) : (s.updPort p f).pending = s.pending := rfl

/-! ### setTag -/

@[simp] theorem State.setTag_node (g : Tag) (v : TagState) : (s.setTag g v).node = s.node := rfl
@[simp] theorem State.setTag_fltn (g : Tag) (v : TagState) : (s.setTag g v).fltn = s.fltn := rfl
@[simp] theorem State.setTag_now (g : Tag) (v : TagState) : (s.setTag g v).now = s.now := rfl
@[simp] theorem State.setTag_loaded (g : Tag) (v : TagState) : (s.setTag g v).loaded = s.loaded := rfl
@[simp] theorem State.setTag_opts (g : Tag) (v : TagState) : (s.setTag g v).opts = s.opts := rfl
@[simp] theorem State.setTag_house (g : Tag) (v : TagState) : (s.setTag g v).house = s.house := rfl
@[simp] theorem State.setTag_ports (g : Tag) (v : TagState) : (s.setTag g v).ports = s.ports := rfl
@[simp] theorem State.setTag_sources (g : Tag) (v : TagState) : (s.setTag g v).sources = s.sources := rfl
@[simp] theorem State.setTag_bindings (g : Tag) (v : TagState) : (s.setTag g v).bindings = s.bindings := rfl
@[simp] theorem State.setTag_freeCells (g : Tag) (v : TagState) : (s.setTag g v).freeCells = s.freeCells := rfl
@[simp] theorem State.setTag_frames (g : Tag) (v : TagState) : (s.setTag g v).frames = s.frames := rfl
@[simp] theorem State.setTag_browse (g : Tag) (v : TagState) : (s.setTag g v).browse = s.browse := rfl
@[simp] theorem State.setTag_lane (g : Tag) (v : TagState) : (s.setTag g v).lane = s.lane := rfl
@[simp] theorem State.setTag_counters (g : Tag) (v : TagState) : (s.setTag g v).counters = s.counters := rfl
@[simp] theorem State.setTag_pending (g : Tag) (v : TagState) : (s.setTag g v).pending = s.pending := rfl

/-! ### updStore -/

@[simp] theorem State.updStore_node (f : Store → Store) : (s.updStore f).node = s.node := rfl
@[simp] theorem State.updStore_fltn (f : Store → Store) : (s.updStore f).fltn = s.fltn := rfl
@[simp] theorem State.updStore_now (f : Store → Store) : (s.updStore f).now = s.now := rfl
@[simp] theorem State.updStore_loaded (f : Store → Store) : (s.updStore f).loaded = s.loaded := rfl
@[simp] theorem State.updStore_opts (f : Store → Store) : (s.updStore f).opts = s.opts := rfl
@[simp] theorem State.updStore_house (f : Store → Store) : (s.updStore f).house = s.house := rfl
@[simp] theorem State.updStore_ports (f : Store → Store) : (s.updStore f).ports = s.ports := rfl
@[simp] theorem State.updStore_sources (f : Store → Store) : (s.updStore f).sources = s.sources := rfl
@[simp] theorem State.updStore_bindings (f : Store → Store) : (s.updStore f).bindings = s.bindings := rfl
@[simp] theorem State.updStore_freeCells (f : Store → Store) : (s.updStore f).freeCells = s.freeCells := rfl
@[simp] theorem State.updStore_frames (f : Store → Store) : (s.updStore f).frames = s.frames := rfl
@[simp] theorem State.updStore_browse (f : Store → Store) : (s.updStore f).browse = s.browse := rfl
@[simp] theorem State.updStore_lane (f : Store → Store) : (s.updStore f).lane = s.lane := rfl
@[simp] theorem State.updStore_counters (f : Store → Store) : (s.updStore f).counters = s.counters := rfl
@[simp] theorem State.updStore_pending (f : Store → Store) : (s.updStore f).pending = s.pending := rfl
@[simp] theorem State.updStore_store (f : Store → Store) : (s.updStore f).store = f s.store := rfl

/-! ### updLane -/

@[simp] theorem State.updLane_node (f : Lane → Lane) : (s.updLane f).node = s.node := rfl
@[simp] theorem State.updLane_fltn (f : Lane → Lane) : (s.updLane f).fltn = s.fltn := rfl
@[simp] theorem State.updLane_now (f : Lane → Lane) : (s.updLane f).now = s.now := rfl
@[simp] theorem State.updLane_loaded (f : Lane → Lane) : (s.updLane f).loaded = s.loaded := rfl
@[simp] theorem State.updLane_opts (f : Lane → Lane) : (s.updLane f).opts = s.opts := rfl
@[simp] theorem State.updLane_house (f : Lane → Lane) : (s.updLane f).house = s.house := rfl
@[simp] theorem State.updLane_ports (f : Lane → Lane) : (s.updLane f).ports = s.ports := rfl
@[simp] theorem State.updLane_sources (f : Lane → Lane) : (s.updLane f).sources = s.sources := rfl
@[simp] theorem State.updLane_bindings (f : Lane → Lane) : (s.updLane f).bindings = s.bindings := rfl
@[simp] theorem State.updLane_freeCells (f : Lane → Lane) : (s.updLane f).freeCells = s.freeCells := rfl
@[simp] theorem State.updLane_frames (f : Lane → Lane) : (s.updLane f).frames = s.frames := rfl
@[simp] theorem State.updLane_store (f : Lane → Lane) : (s.updLane f).store = s.store := rfl
@[simp] theorem State.updLane_browse (f : Lane → Lane) : (s.updLane f).browse = s.browse := rfl
@[simp] theorem State.updLane_counters (f : Lane → Lane) : (s.updLane f).counters = s.counters := rfl
@[simp] theorem State.updLane_pending (f : Lane → Lane) : (s.updLane f).pending = s.pending := rfl
@[simp] theorem State.updLane_lane (f : Lane → Lane) : (s.updLane f).lane = f s.lane := rfl

/-! ### updHouse -/

@[simp] theorem State.updHouse_node (f : House → House) : (s.updHouse f).node = s.node := rfl
@[simp] theorem State.updHouse_fltn (f : House → House) : (s.updHouse f).fltn = s.fltn := rfl
@[simp] theorem State.updHouse_now (f : House → House) : (s.updHouse f).now = s.now := rfl
@[simp] theorem State.updHouse_loaded (f : House → House) : (s.updHouse f).loaded = s.loaded := rfl
@[simp] theorem State.updHouse_opts (f : House → House) : (s.updHouse f).opts = s.opts := rfl
@[simp] theorem State.updHouse_ports (f : House → House) : (s.updHouse f).ports = s.ports := rfl
@[simp] theorem State.updHouse_sources (f : House → House) : (s.updHouse f).sources = s.sources := rfl
@[simp] theorem State.updHouse_bindings (f : House → House) : (s.updHouse f).bindings = s.bindings := rfl
@[simp] theorem State.updHouse_freeCells (f : House → House) : (s.updHouse f).freeCells = s.freeCells := rfl
@[simp] theorem State.updHouse_frames (f : House → House) : (s.updHouse f).frames = s.frames := rfl
@[simp] theorem State.updHouse_store (f : House → House) : (s.updHouse f).store = s.store := rfl
@[simp] theorem State.updHouse_browse (f : House → House) : (s.updHouse f).browse = s.browse := rfl
@[simp] theorem State.updHouse_lane (f : House → House) : (s.updHouse f).lane = s.lane := rfl
@[simp] theorem State.updHouse_counters (f : House → House) : (s.updHouse f).counters = s.counters := rfl
@[simp] theorem State.updHouse_pending (f : House → House) : (s.updHouse f).pending = s.pending := rfl
@[simp] theorem State.updHouse_house (f : House → House) : (s.updHouse f).house = f s.house := rfl

/-! ### updCounters -/

@[simp] theorem State.updCounters_node (f : NodeCounters → NodeCounters) : (s.updCounters f).node = s.node := rfl
@[simp] theorem State.updCounters_fltn (f : NodeCounters → NodeCounters) : (s.updCounters f).fltn = s.fltn := rfl
@[simp] theorem State.updCounters_now (f : NodeCounters → NodeCounters) : (s.updCounters f).now = s.now := rfl
@[simp] theorem State.updCounters_loaded (f : NodeCounters → NodeCounters) : (s.updCounters f).loaded = s.loaded := rfl
@[simp] theorem State.updCounters_opts (f : NodeCounters → NodeCounters) : (s.updCounters f).opts = s.opts := rfl
@[simp] theorem State.updCounters_house (f : NodeCounters → NodeCounters) : (s.updCounters f).house = s.house := rfl
@[simp] theorem State.updCounters_ports (f : NodeCounters → NodeCounters) : (s.updCounters f).ports = s.ports := rfl
@[simp] theorem State.updCounters_sources (f : NodeCounters → NodeCounters) : (s.updCounters f).sources = s.sources := rfl
@[simp] theorem State.updCounters_bindings (f : NodeCounters → NodeCounters) : (s.updCounters f).bindings = s.bindings := rfl
@[simp] theorem State.updCounters_freeCells (f : NodeCounters → NodeCounters) : (s.updCounters f).freeCells = s.freeCells := rfl
@[simp] theorem State.updCounters_frames (f : NodeCounters → NodeCounters) : (s.updCounters f).frames = s.frames := rfl
@[simp] theorem State.updCounters_store (f : NodeCounters → NodeCounters) : (s.updCounters f).store = s.store := rfl
@[simp] theorem State.updCounters_browse (f : NodeCounters → NodeCounters) : (s.updCounters f).browse = s.browse := rfl
@[simp] theorem State.updCounters_lane (f : NodeCounters → NodeCounters) : (s.updCounters f).lane = s.lane := rfl
@[simp] theorem State.updCounters_pending (f : NodeCounters → NodeCounters) : (s.updCounters f).pending = s.pending := rfl
@[simp] theorem State.updCounters_counters (f : NodeCounters → NodeCounters) : (s.updCounters f).counters = f s.counters := rfl

/-! ### updFrame -/

@[simp] theorem State.updFrame_node (i : Nat) (g : FrameRecord → FrameRecord) : (s.updFrame i g).node = s.node := rfl
@[simp] theorem State.updFrame_fltn (i : Nat) (g : FrameRecord → FrameRecord) : (s.updFrame i g).fltn = s.fltn := rfl
@[simp] theorem State.updFrame_now (i : Nat) (g : FrameRecord → FrameRecord) : (s.updFrame i g).now = s.now := rfl
@[simp] theorem State.updFrame_loaded (i : Nat) (g : FrameRecord → FrameRecord) : (s.updFrame i g).loaded = s.loaded := rfl
@[simp] theorem State.updFrame_opts (i : Nat) (g : FrameRecord → FrameRecord) : (s.updFrame i g).opts = s.opts := rfl
@[simp] theorem State.updFrame_house (i : Nat) (g : FrameRecord → FrameRecord) : (s.updFrame i g).house = s.house := rfl
@[simp] theorem State.updFrame_ports (i : Nat) (g : FrameRecord → FrameRecord) : (s.updFrame i g).ports = s.ports := rfl
@[simp] theorem State.updFrame_sources (i : Nat) (g : FrameRecord → FrameRecord) : (s.updFrame i g).sources = s.sources := rfl
@[simp] theorem State.updFrame_bindings (i : Nat) (g : FrameRecord → FrameRecord) : (s.updFrame i g).bindings = s.bindings := rfl
@[simp] theorem State.updFrame_freeCells (i : Nat) (g : FrameRecord → FrameRecord) : (s.updFrame i g).freeCells = s.freeCells := rfl
@[simp] theorem State.updFrame_store (i : Nat) (g : FrameRecord → FrameRecord) : (s.updFrame i g).store = s.store := rfl
@[simp] theorem State.updFrame_browse (i : Nat) (g : FrameRecord → FrameRecord) : (s.updFrame i g).browse = s.browse := rfl
@[simp] theorem State.updFrame_lane (i : Nat) (g : FrameRecord → FrameRecord) : (s.updFrame i g).lane = s.lane := rfl
@[simp] theorem State.updFrame_counters (i : Nat) (g : FrameRecord → FrameRecord) : (s.updFrame i g).counters = s.counters := rfl
@[simp] theorem State.updFrame_pending (i : Nat) (g : FrameRecord → FrameRecord) : (s.updFrame i g).pending = s.pending := rfl

/-! ### updEntry -/

@[simp] theorem State.updEntry_node (src : SourceId) (stream : BitVec 8) (f : SourceEntry → SourceEntry) : (s.updEntry src stream f).node = s.node := rfl
@[simp] theorem State.updEntry_fltn (src : SourceId) (stream : BitVec 8) (f : SourceEntry → SourceEntry) : (s.updEntry src stream f).fltn = s.fltn := rfl
@[simp] theorem State.updEntry_now (src : SourceId) (stream : BitVec 8) (f : SourceEntry → SourceEntry) : (s.updEntry src stream f).now = s.now := rfl
@[simp] theorem State.updEntry_loaded (src : SourceId) (stream : BitVec 8) (f : SourceEntry → SourceEntry) : (s.updEntry src stream f).loaded = s.loaded := rfl
@[simp] theorem State.updEntry_opts (src : SourceId) (stream : BitVec 8) (f : SourceEntry → SourceEntry) : (s.updEntry src stream f).opts = s.opts := rfl
@[simp] theorem State.updEntry_house (src : SourceId) (stream : BitVec 8) (f : SourceEntry → SourceEntry) : (s.updEntry src stream f).house = s.house := rfl
@[simp] theorem State.updEntry_ports (src : SourceId) (stream : BitVec 8) (f : SourceEntry → SourceEntry) : (s.updEntry src stream f).ports = s.ports := rfl
@[simp] theorem State.updEntry_bindings (src : SourceId) (stream : BitVec 8) (f : SourceEntry → SourceEntry) : (s.updEntry src stream f).bindings = s.bindings := rfl
@[simp] theorem State.updEntry_freeCells (src : SourceId) (stream : BitVec 8) (f : SourceEntry → SourceEntry) : (s.updEntry src stream f).freeCells = s.freeCells := rfl
@[simp] theorem State.updEntry_frames (src : SourceId) (stream : BitVec 8) (f : SourceEntry → SourceEntry) : (s.updEntry src stream f).frames = s.frames := rfl
@[simp] theorem State.updEntry_store (src : SourceId) (stream : BitVec 8) (f : SourceEntry → SourceEntry) : (s.updEntry src stream f).store = s.store := rfl
@[simp] theorem State.updEntry_browse (src : SourceId) (stream : BitVec 8) (f : SourceEntry → SourceEntry) : (s.updEntry src stream f).browse = s.browse := rfl
@[simp] theorem State.updEntry_lane (src : SourceId) (stream : BitVec 8) (f : SourceEntry → SourceEntry) : (s.updEntry src stream f).lane = s.lane := rfl
@[simp] theorem State.updEntry_counters (src : SourceId) (stream : BitVec 8) (f : SourceEntry → SourceEntry) : (s.updEntry src stream f).counters = s.counters := rfl
@[simp] theorem State.updEntry_pending (src : SourceId) (stream : BitVec 8) (f : SourceEntry → SourceEntry) : (s.updEntry src stream f).pending = s.pending := rfl

/-! ### updJob -/

@[simp] theorem State.updJob_node (j : Job) (f : Job → Job) : (s.updJob j f).node = s.node := rfl
@[simp] theorem State.updJob_fltn (j : Job) (f : Job → Job) : (s.updJob j f).fltn = s.fltn := rfl
@[simp] theorem State.updJob_now (j : Job) (f : Job → Job) : (s.updJob j f).now = s.now := rfl
@[simp] theorem State.updJob_loaded (j : Job) (f : Job → Job) : (s.updJob j f).loaded = s.loaded := rfl
@[simp] theorem State.updJob_opts (j : Job) (f : Job → Job) : (s.updJob j f).opts = s.opts := rfl
@[simp] theorem State.updJob_house (j : Job) (f : Job → Job) : (s.updJob j f).house = s.house := rfl
@[simp] theorem State.updJob_ports (j : Job) (f : Job → Job) : (s.updJob j f).ports = s.ports := rfl
@[simp] theorem State.updJob_sources (j : Job) (f : Job → Job) : (s.updJob j f).sources = s.sources := rfl
@[simp] theorem State.updJob_bindings (j : Job) (f : Job → Job) : (s.updJob j f).bindings = s.bindings := rfl
@[simp] theorem State.updJob_freeCells (j : Job) (f : Job → Job) : (s.updJob j f).freeCells = s.freeCells := rfl
@[simp] theorem State.updJob_frames (j : Job) (f : Job → Job) : (s.updJob j f).frames = s.frames := rfl
@[simp] theorem State.updJob_browse (j : Job) (f : Job → Job) : (s.updJob j f).browse = s.browse := rfl
@[simp] theorem State.updJob_lane (j : Job) (f : Job → Job) : (s.updJob j f).lane = s.lane := rfl
@[simp] theorem State.updJob_counters (j : Job) (f : Job → Job) : (s.updJob j f).counters = s.counters := rfl
@[simp] theorem State.updJob_pending (j : Job) (f : Job → Job) : (s.updJob j f).pending = s.pending := rfl

/-! ### dropJob -/

@[simp] theorem State.dropJob_node (j : Job) : (s.dropJob j).node = s.node := rfl
@[simp] theorem State.dropJob_fltn (j : Job) : (s.dropJob j).fltn = s.fltn := rfl
@[simp] theorem State.dropJob_now (j : Job) : (s.dropJob j).now = s.now := rfl
@[simp] theorem State.dropJob_loaded (j : Job) : (s.dropJob j).loaded = s.loaded := rfl
@[simp] theorem State.dropJob_opts (j : Job) : (s.dropJob j).opts = s.opts := rfl
@[simp] theorem State.dropJob_house (j : Job) : (s.dropJob j).house = s.house := rfl
@[simp] theorem State.dropJob_ports (j : Job) : (s.dropJob j).ports = s.ports := rfl
@[simp] theorem State.dropJob_sources (j : Job) : (s.dropJob j).sources = s.sources := rfl
@[simp] theorem State.dropJob_bindings (j : Job) : (s.dropJob j).bindings = s.bindings := rfl
@[simp] theorem State.dropJob_freeCells (j : Job) : (s.dropJob j).freeCells = s.freeCells := rfl
@[simp] theorem State.dropJob_frames (j : Job) : (s.dropJob j).frames = s.frames := rfl
@[simp] theorem State.dropJob_browse (j : Job) : (s.dropJob j).browse = s.browse := rfl
@[simp] theorem State.dropJob_lane (j : Job) : (s.dropJob j).lane = s.lane := rfl
@[simp] theorem State.dropJob_counters (j : Job) : (s.dropJob j).counters = s.counters := rfl
@[simp] theorem State.dropJob_pending (j : Job) : (s.dropJob j).pending = s.pending := rfl

/-! ### issue -/

@[simp] theorem State.issue_node (g : Tag) (o : TxOwner) (r : Bool) (a : Nat) (d : List Byte) : (s.issue g o r a d).node = s.node := rfl
@[simp] theorem State.issue_fltn (g : Tag) (o : TxOwner) (r : Bool) (a : Nat) (d : List Byte) : (s.issue g o r a d).fltn = s.fltn := rfl
@[simp] theorem State.issue_now (g : Tag) (o : TxOwner) (r : Bool) (a : Nat) (d : List Byte) : (s.issue g o r a d).now = s.now := rfl
@[simp] theorem State.issue_loaded (g : Tag) (o : TxOwner) (r : Bool) (a : Nat) (d : List Byte) : (s.issue g o r a d).loaded = s.loaded := rfl
@[simp] theorem State.issue_opts (g : Tag) (o : TxOwner) (r : Bool) (a : Nat) (d : List Byte) : (s.issue g o r a d).opts = s.opts := rfl
@[simp] theorem State.issue_house (g : Tag) (o : TxOwner) (r : Bool) (a : Nat) (d : List Byte) : (s.issue g o r a d).house = s.house := rfl
@[simp] theorem State.issue_ports (g : Tag) (o : TxOwner) (r : Bool) (a : Nat) (d : List Byte) : (s.issue g o r a d).ports = s.ports := rfl
@[simp] theorem State.issue_sources (g : Tag) (o : TxOwner) (r : Bool) (a : Nat) (d : List Byte) : (s.issue g o r a d).sources = s.sources := rfl
@[simp] theorem State.issue_bindings (g : Tag) (o : TxOwner) (r : Bool) (a : Nat) (d : List Byte) : (s.issue g o r a d).bindings = s.bindings := rfl
@[simp] theorem State.issue_freeCells (g : Tag) (o : TxOwner) (r : Bool) (a : Nat) (d : List Byte) : (s.issue g o r a d).freeCells = s.freeCells := rfl
@[simp] theorem State.issue_frames (g : Tag) (o : TxOwner) (r : Bool) (a : Nat) (d : List Byte) : (s.issue g o r a d).frames = s.frames := rfl
@[simp] theorem State.issue_browse (g : Tag) (o : TxOwner) (r : Bool) (a : Nat) (d : List Byte) : (s.issue g o r a d).browse = s.browse := rfl
@[simp] theorem State.issue_lane (g : Tag) (o : TxOwner) (r : Bool) (a : Nat) (d : List Byte) : (s.issue g o r a d).lane = s.lane := rfl
@[simp] theorem State.issue_counters (g : Tag) (o : TxOwner) (r : Bool) (a : Nat) (d : List Byte) : (s.issue g o r a d).counters = s.counters := rfl
@[simp] theorem State.issue_pending (g : Tag) (o : TxOwner) (r : Bool) (a : Nat) (d : List Byte) : (s.issue g o r a d).pending = s.pending := rfl

/-! ### Reading a record after a change -/

@[simp] theorem State.binding_updBinding (b c : BindingNo) (f : Binding → Binding) :
    (s.updBinding b f).binding c = if c = b then f (s.binding b) else s.binding c := by
  simp only [State.updBinding, State.binding, Fin.getElem_fin, Vector.getElem_set, Fin.val_inj, eq_comm]

@[simp] theorem State.binding_updAsm (b c : BindingNo) (f : Assembly → Assembly) :
    (s.updAsm b f).binding c =
      if c = b then { s.binding b with asm := f (s.binding b).asm } else s.binding c := by
  simp [State.updAsm]

@[simp] theorem State.binding_updAcct (b c : BindingNo) (f : Accounting → Accounting) :
    (s.updAcct b f).binding c =
      if c = b then { s.binding b with acct := f (s.binding b).acct } else s.binding c := by
  simp [State.updAcct]

@[simp] theorem State.binding_updCoord (b c : BindingNo) (f : Coordination → Coordination) :
    (s.updCoord b f).binding c =
      if c = b then { s.binding b with coord := f (s.binding b).coord } else s.binding c := by
  simp [State.updCoord]

@[simp] theorem State.port_updPort (p p' : PortNo) (f : Port → Port) :
    (s.updPort p f).port p' = if p' = p then f (s.port p) else s.port p' := by
  simp only [State.updPort, State.port, Fin.getElem_fin, Vector.getElem_set, Fin.val_inj, eq_comm]

@[simp] theorem State.tag_setTag (g g' : Tag) (v : TagState) :
    (s.setTag g v).tag g' = if g' = g then v else s.tag g' := by
  simp only [State.setTag, State.tag, Fin.getElem_fin, Vector.getElem_set, Fin.val_inj, eq_comm]

@[simp] theorem State.binding_atTime (t : Time) (x : BindingNo) : (s.atTime t).binding x = s.binding x := rfl
@[simp] theorem State.port_atTime (t : Time) (x : PortNo) : (s.atTime t).port x = s.port x := rfl
@[simp] theorem State.tag_atTime (t : Time) (x : Tag) : (s.atTime t).tag x = s.tag x := rfl
@[simp] theorem State.port_updBinding (b : BindingNo) (f : Binding → Binding) (x : PortNo) : (s.updBinding b f).port x = s.port x := rfl
@[simp] theorem State.tag_updBinding (b : BindingNo) (f : Binding → Binding) (x : Tag) : (s.updBinding b f).tag x = s.tag x := rfl
@[simp] theorem State.port_updAsm (b : BindingNo) (f : Assembly → Assembly) (x : PortNo) : (s.updAsm b f).port x = s.port x := rfl
@[simp] theorem State.tag_updAsm (b : BindingNo) (f : Assembly → Assembly) (x : Tag) : (s.updAsm b f).tag x = s.tag x := rfl
@[simp] theorem State.port_updAcct (b : BindingNo) (f : Accounting → Accounting) (x : PortNo) : (s.updAcct b f).port x = s.port x := rfl
@[simp] theorem State.tag_updAcct (b : BindingNo) (f : Accounting → Accounting) (x : Tag) : (s.updAcct b f).tag x = s.tag x := rfl
@[simp] theorem State.port_updCoord (b : BindingNo) (f : Coordination → Coordination) (x : PortNo) : (s.updCoord b f).port x = s.port x := rfl
@[simp] theorem State.tag_updCoord (b : BindingNo) (f : Coordination → Coordination) (x : Tag) : (s.updCoord b f).tag x = s.tag x := rfl
@[simp] theorem State.port_setSlot (b : BindingNo) (i : Nat) (v : Slot) (x : PortNo) : (s.setSlot b i v).port x = s.port x := rfl
@[simp] theorem State.tag_setSlot (b : BindingNo) (i : Nat) (v : Slot) (x : Tag) : (s.setSlot b i v).tag x = s.tag x := rfl
@[simp] theorem State.binding_updPort (p : PortNo) (f : Port → Port) (x : BindingNo) : (s.updPort p f).binding x = s.binding x := rfl
@[simp] theorem State.tag_updPort (p : PortNo) (f : Port → Port) (x : Tag) : (s.updPort p f).tag x = s.tag x := rfl
@[simp] theorem State.binding_setTag (g : Tag) (v : TagState) (x : BindingNo) : (s.setTag g v).binding x = s.binding x := rfl
@[simp] theorem State.port_setTag (g : Tag) (v : TagState) (x : PortNo) : (s.setTag g v).port x = s.port x := rfl
@[simp] theorem State.binding_updStore (f : Store → Store) (x : BindingNo) : (s.updStore f).binding x = s.binding x := rfl
@[simp] theorem State.port_updStore (f : Store → Store) (x : PortNo) : (s.updStore f).port x = s.port x := rfl
@[simp] theorem State.binding_updLane (f : Lane → Lane) (x : BindingNo) : (s.updLane f).binding x = s.binding x := rfl
@[simp] theorem State.port_updLane (f : Lane → Lane) (x : PortNo) : (s.updLane f).port x = s.port x := rfl
@[simp] theorem State.tag_updLane (f : Lane → Lane) (x : Tag) : (s.updLane f).tag x = s.tag x := rfl
@[simp] theorem State.binding_updHouse (f : House → House) (x : BindingNo) : (s.updHouse f).binding x = s.binding x := rfl
@[simp] theorem State.port_updHouse (f : House → House) (x : PortNo) : (s.updHouse f).port x = s.port x := rfl
@[simp] theorem State.tag_updHouse (f : House → House) (x : Tag) : (s.updHouse f).tag x = s.tag x := rfl
@[simp] theorem State.binding_updCounters (f : NodeCounters → NodeCounters) (x : BindingNo) : (s.updCounters f).binding x = s.binding x := rfl
@[simp] theorem State.port_updCounters (f : NodeCounters → NodeCounters) (x : PortNo) : (s.updCounters f).port x = s.port x := rfl
@[simp] theorem State.tag_updCounters (f : NodeCounters → NodeCounters) (x : Tag) : (s.updCounters f).tag x = s.tag x := rfl
@[simp] theorem State.binding_updFrame (i : Nat) (g : FrameRecord → FrameRecord) (x : BindingNo) : (s.updFrame i g).binding x = s.binding x := rfl
@[simp] theorem State.port_updFrame (i : Nat) (g : FrameRecord → FrameRecord) (x : PortNo) : (s.updFrame i g).port x = s.port x := rfl
@[simp] theorem State.tag_updFrame (i : Nat) (g : FrameRecord → FrameRecord) (x : Tag) : (s.updFrame i g).tag x = s.tag x := rfl
@[simp] theorem State.binding_updEntry (src : SourceId) (stream : BitVec 8) (f : SourceEntry → SourceEntry) (x : BindingNo) : (s.updEntry src stream f).binding x = s.binding x := rfl
@[simp] theorem State.port_updEntry (src : SourceId) (stream : BitVec 8) (f : SourceEntry → SourceEntry) (x : PortNo) : (s.updEntry src stream f).port x = s.port x := rfl
@[simp] theorem State.tag_updEntry (src : SourceId) (stream : BitVec 8) (f : SourceEntry → SourceEntry) (x : Tag) : (s.updEntry src stream f).tag x = s.tag x := rfl
@[simp] theorem State.binding_updJob (j : Job) (f : Job → Job) (x : BindingNo) : (s.updJob j f).binding x = s.binding x := rfl
@[simp] theorem State.port_updJob (j : Job) (f : Job → Job) (x : PortNo) : (s.updJob j f).port x = s.port x := rfl
@[simp] theorem State.binding_dropJob (j : Job) (x : BindingNo) : (s.dropJob j).binding x = s.binding x := rfl
@[simp] theorem State.port_dropJob (j : Job) (x : PortNo) : (s.dropJob j).port x = s.port x := rfl
@[simp] theorem State.binding_issue (g : Tag) (o : TxOwner) (r : Bool) (a : Nat) (d : List Byte) (x : BindingNo) : (s.issue g o r a d).binding x = s.binding x := rfl
@[simp] theorem State.port_issue (g : Tag) (o : TxOwner) (r : Bool) (a : Nat) (d : List Byte) (x : PortNo) : (s.issue g o r a d).port x = s.port x := rfl

end Sys2Proof.Machine
end

