-- ==== Sys2Proof/Laws/Work.lean ====
section
/-! SUPPORT. What the shared operations on a recording can do: each works on its one binding (Safety.lean), and the
notice queue's and the frame table's operations touch nothing else; what becomes of the runs of a
new EXTENT, of the jobs of an aborted binding, and of a binding at the end of its drain. -/

namespace Sys2Proof.Machine

variable {s u v : State} {b : BindingNo}

theorem State.worksOn_refl (s : State) (b : BindingNo) : s.worksOn s b := by
  simp [State.worksOn, State.sameShell, State.othersSame, State.sameLink]

theorem State.worksOn_trans (h : s.worksOn u b) (k : u.worksOn v b) : s.worksOn v b := by
  obtain ⟨⟨a1, a2, a3, a4, a5, a6, a7, a8⟩, a9, a10, a11, b1, b2, b3, b4, b5, b6⟩ := h
  obtain ⟨⟨c1, c2, c3, c4, c5, c6, c7, c8⟩, c9, c10, c11, d1, d2, d3, d4, d5, d6⟩ := k
  refine ⟨⟨?_, ?_, ?_, ?_, ?_, ?_, ?_, ?_⟩, ?_, ?_, ?_, ?_, ?_, ?_, ?_, ?_, ?_⟩
  case refine_11 => exact fun x hx => (c11 x hx).trans (a11 x hx)
  all_goals simp [*]

/-- A fold of work on one binding is work on it. -/
theorem State.worksOn_foldl {α : Type} (f : State → α → State) (h : ∀ (s : State) (x : α), s.worksOn (f s x) b)
    (l : List α) :
    ∀ s : State, s.worksOn (l.foldl f s) b := by
  induction l with
  | nil => exact fun s => s.worksOn_refl b
  | cons x xs ih => exact fun s => State.worksOn_trans (h s x) (ih (f s x))

/-! ### The updates -/

theorem State.worksOn_updBinding (s : State) (b : BindingNo) (f : Binding → Binding) : s.worksOn (s.updBinding b f) b := by
  simp +contextual [State.worksOn, State.sameShell, State.othersSame, State.sameLink]

theorem State.worksOn_updAsm (s : State) (b : BindingNo) (f : Assembly → Assembly) : s.worksOn (s.updAsm b f) b :=
  s.worksOn_updBinding b _

theorem State.worksOn_updAcct (s : State) (b : BindingNo) (f : Accounting → Accounting) : s.worksOn (s.updAcct b f) b :=
  s.worksOn_updBinding b _

theorem State.worksOn_updCoord (s : State) (b : BindingNo) (f : Coordination → Coordination) :
    s.worksOn (s.updCoord b f) b :=
  s.worksOn_updBinding b _

theorem State.worksOn_frames (s : State) (b : BindingNo) (fr : List FrameRecord) (n : Nat) :
    s.worksOn { s with frames := fr, freeCells := n } b := by
  simp [State.worksOn, State.sameShell, State.othersSame, State.sameLink, State.binding]

theorem State.worksOn_updFrame (s : State) (b : BindingNo) (i : Nat) (g : FrameRecord → FrameRecord) :
    s.worksOn (s.updFrame i g) b :=
  s.worksOn_frames b _ _

theorem State.worksOn_lane (s : State) (b : BindingNo) (l : Lane) (c : NodeCounters) :
    s.worksOn { s with lane := l, counters := c } b := by
  simp [State.worksOn, State.sameShell, State.othersSame, State.sameLink, State.binding]

theorem State.worksOn_setQueue (s : State) (b : BindingNo) (c : JobClass) (q : Store → List Job) :
    s.worksOn (s.updStore (fun st => st.setQueue c (q st))) b := by
  cases c <;> simp [State.worksOn, State.sameShell, State.othersSame, State.sameLink, State.updStore, Store.setQueue,
    State.binding]

theorem State.worksOn_count (s : State) (b : BindingNo) (c : BindingCounter) (k : Nat) : s.worksOn (s.count b c k) b := by
  unfold State.count
  split
  · exact s.worksOn_updBinding b _
  · exact s.worksOn_refl b

/-! ### The frame table -/

/-- Freeing, releasing and giving back a user change the frame table and the free list alone (R64, R67). -/
theorem State.freeFrame_spec (s : State) (i : Nat) :
    ∃ fr n, s.freeFrame i = { s with frames := fr, freeCells := n } := by
  unfold State.freeFrame
  split
  · exact ⟨s.frames, s.freeCells, rfl⟩
  · exact ⟨_, _, rfl⟩

theorem State.releaseFrame_spec (s : State) (i : Nat) :
    ∃ fr n, s.releaseFrame i = { s with frames := fr, freeCells := n } := by
  unfold State.releaseFrame
  split
  · exact ⟨s.frames, s.freeCells, rfl⟩
  · split
    · exact s.freeFrame_spec i
    · exact ⟨_, s.freeCells, rfl⟩

theorem State.giveBack_spec (s : State) (i : Nat) :
    ∃ fr n, s.giveBack i = { s with frames := fr, freeCells := n } := by
  unfold State.giveBack
  split
  · exact ⟨s.frames, s.freeCells, rfl⟩
  · split
    · exact s.freeFrame_spec i
    · exact ⟨_, s.freeCells, rfl⟩

theorem State.worksOn_freeFrame (s : State) (b : BindingNo) (i : Nat) : s.worksOn (s.freeFrame i) b := by
  obtain ⟨fr, n, h⟩ := s.freeFrame_spec i
  exact h ▸ s.worksOn_frames b fr n

theorem State.worksOn_releaseFrame (s : State) (b : BindingNo) (i : Nat) : s.worksOn (s.releaseFrame i) b := by
  obtain ⟨fr, n, h⟩ := s.releaseFrame_spec i
  exact h ▸ s.worksOn_frames b fr n

theorem State.worksOn_giveBack (s : State) (b : BindingNo) (i : Nat) : s.worksOn (s.giveBack i) b := by
  obtain ⟨fr, n, h⟩ := s.giveBack_spec i
  exact h ▸ s.worksOn_frames b fr n

/-! ### The notice queue -/

/-- A notice that needs a place changes the lane and the node counters alone (R178). -/
theorem State.place_spec (s : State) (n : Notice) : ∃ l c, s.place n = { s with lane := l, counters := c } := by
  unfold State.place
  split
  · exact ⟨_, s.counters, rfl⟩
  · split
    · exact ⟨s.lane, s.counters, rfl⟩
    · split
      · exact ⟨_, s.counters, rfl⟩
      · exact ⟨s.lane, _, rfl⟩

/-- Offering a notice changes the lane and the node counters alone (R175 to R178). -/
theorem State.offer_spec (s : State) (n : Notice) : ∃ l c, s.offer n = { s with lane := l, counters := c } := by
  unfold State.offer
  split
  · split
    · exact ⟨_, s.counters, rfl⟩
    · split
      · split
        · exact s.place_spec _
        · split
          · exact ⟨_, s.counters, rfl⟩
          · obtain ⟨l, c, h⟩ := State.place_spec (s.updLane _) _
            exact ⟨l, c, h⟩
      · exact s.place_spec _
  · exact ⟨s.lane, s.counters, rfl⟩

theorem State.worksOn_offer (s : State) (b : BindingNo) (n : Notice) : s.worksOn (s.offer n) b := by
  obtain ⟨l, c, h⟩ := s.offer_spec n
  exact h ▸ s.worksOn_lane b l c

theorem State.worksOn_offerTake (s : State) (b : BindingNo) : s.worksOn (s.offerTake b) b := by
  unfold State.offerTake
  dsimp only
  split
  · split
    · exact s.worksOn_refl b
    · exact s.worksOn_offer b _
  · exact s.worksOn_refl b

/-! ### Extent maps, reports and yields -/

theorem State.worksOn_report (s : State) (b : BindingNo) (r : Run) : s.worksOn (s.report b r) b :=
  State.worksOn_trans (s.worksOn_updCoord b _) (State.worksOn_lane _ b _ _)

theorem State.worksOn_insertExtent (s : State) (b : BindingNo) (k : ExtentKind) (lo hi : Nat) :
    s.worksOn (s.insertExtent b k lo hi) b :=
  s.worksOn_updCoord b _

theorem State.worksOn_ownGap (s : State) (b : BindingNo) (lo hi : Nat) : s.worksOn (s.ownGap b lo hi) b := by
  unfold State.ownGap
  dsimp only
  split
  · split
    · exact State.worksOn_trans (s.worksOn_insertExtent b _ lo hi) (State.worksOn_report _ b _)
    · exact s.worksOn_insertExtent b _ lo hi
  · exact s.worksOn_refl b

theorem State.worksOn_yieldFrame (s : State) (b : BindingNo) (i : Nat) : s.worksOn (s.yieldFrame b i) b :=
  State.worksOn_trans (s.worksOn_releaseFrame b i) (State.worksOn_count _ b _ _)

theorem State.worksOn_yieldCovered (s : State) (b : BindingNo) (ranges : List (Nat × Nat)) :
    s.worksOn (s.yieldCovered b ranges) b :=
  State.worksOn_trans (s.worksOn_updCoord b _)
    (State.worksOn_foldl _ (fun s (h : Held) => s.worksOn_yieldFrame b h.frame) _ _)

/-! ### Jobs and writes -/

theorem State.worksOn_tellFailure (s : State) (j : Job) : s.worksOn (s.tellFailure j) j.binding := by
  unfold State.tellFailure
  split
  · exact State.worksOn_trans (State.worksOn_trans (s.worksOn_ownGap _ _ _) (State.worksOn_count _ _ _ _))
      (State.worksOn_giveBack _ _ _)
  · exact State.worksOn_trans (s.worksOn_count _ _ _) (State.worksOn_giveBack _ _ _)

theorem State.worksOn_handOver (s : State) (j : Job) : s.worksOn (s.handOver j) j.binding := by
  unfold State.handOver
  split
  · exact s.worksOn_setQueue _ _ _
  · exact s.worksOn_tellFailure j

theorem State.worksOn_writeFrame (s : State) (b : BindingNo) (i : Nat) (cls : JobClass) (c : BindingCounter) :
    s.worksOn (s.writeFrame b i cls c) b := by
  unfold State.writeFrame
  split
  · exact s.worksOn_refl b
  · dsimp only
    split
    · refine State.worksOn_trans ?_ (State.worksOn_updBinding _ b _)
      refine State.worksOn_trans ?_ (State.worksOn_handOver _ _)
      exact State.worksOn_trans (s.worksOn_updFrame b i _) (State.worksOn_count _ b c 1)
    · refine State.worksOn_trans ?_ (State.worksOn_handOver _ _)
      exact State.worksOn_trans (s.worksOn_updFrame b i _) (State.worksOn_count _ b c 1)

theorem State.worksOn_unhold (s : State) (b : BindingNo) (i : Nat) : s.worksOn (s.unhold b i) b :=
  s.worksOn_updCoord b _

theorem State.worksOn_fillHeld (s : State) (b : BindingNo) (h : Held) : s.worksOn (s.fillHeld b h) b :=
  State.worksOn_trans (s.worksOn_unhold b _) (State.worksOn_writeFrame _ b _ _ _)

theorem State.worksOn_fillAll (s : State) (b : BindingNo) (hs : List Held) : s.worksOn (s.fillAll b hs) b :=
  State.worksOn_foldl _ (fun s h => s.worksOn_fillHeld b h) hs s

theorem State.worksOn_pressureTest (s : State) (b : BindingNo) : s.worksOn (s.pressureTest b) b := by
  unfold State.pressureTest
  split
  · split
    · exact s.worksOn_refl b
    · exact s.worksOn_fillHeld b _
  · exact s.worksOn_refl b

/-! ### Roles and grades -/

theorem State.worksOn_promote (s : State) (b : BindingNo) : s.worksOn (s.promote b) b :=
  State.worksOn_trans (s.worksOn_updCoord b _)
    (State.worksOn_foldl _ (fun s (h : Held) => s.worksOn_writeFrame b h.frame _ _) _ _)

theorem State.worksOn_changeView (s : State) (b : BindingNo) (best : Station) : s.worksOn (s.changeView b best) b := by
  unfold State.changeView
  dsimp only
  split
  · exact State.worksOn_trans (State.worksOn_trans (s.worksOn_updCoord b _) (State.worksOn_offerTake _ b))
      (State.worksOn_promote _ b)
  · exact State.worksOn_trans (s.worksOn_updCoord b _) (State.worksOn_offerTake _ b)

theorem State.worksOn_evaluate (s : State) (b : BindingNo) : s.worksOn (s.evaluate b) b := by
  unfold State.evaluate
  split
  · exact s.worksOn_changeView b _
  · exact s.worksOn_refl b

theorem State.worksOn_recomputeGrade (s : State) (b : BindingNo) : s.worksOn (s.recomputeGrade b) b := by
  unfold State.recomputeGrade
  dsimp only
  split
  · exact s.worksOn_refl b
  · exact State.worksOn_trans (State.worksOn_trans (s.worksOn_updAcct b _) (State.worksOn_offerTake _ b))
      (State.worksOn_evaluate _ b)

/-! ### Closures and completed frames -/

theorem State.worksOn_takeClosure (s : State) (b : BindingNo) (o : Closure) : s.worksOn (s.takeClosure b o) b :=
  State.worksOn_trans (s.worksOn_updAcct b _) (State.worksOn_recomputeGrade _ b)

theorem State.worksOn_colourFrame (s : State) (b : BindingNo) (f : FrameRecord) : s.worksOn (s.colourFrame b f) b := by
  unfold State.colourFrame
  dsimp only
  split
  · exact State.worksOn_trans (s.worksOn_updAcct b _) (State.worksOn_updFrame _ b _ _)
  · refine State.worksOn_trans ?_ (State.worksOn_count _ b _ _)
    exact State.worksOn_trans (s.worksOn_updAcct b _) (State.worksOn_updFrame _ b _ _)
  · refine State.worksOn_trans ?_ (State.worksOn_count _ b _ _)
    exact State.worksOn_trans (s.worksOn_updAcct b _) (State.worksOn_updFrame _ b _ _)

theorem State.worksOn_redFrame (s : State) (b : BindingNo) (f : FrameRecord) : s.worksOn (s.redFrame b f) b :=
  State.worksOn_trans (s.worksOn_ownGap b _ _) (State.worksOn_releaseFrame _ b _)

theorem State.worksOn_holdFrame (s : State) (b : BindingNo) (f : FrameRecord) : s.worksOn (s.holdFrame b f) b := by
  unfold State.holdFrame
  dsimp only
  refine State.worksOn_trans ?_ (State.worksOn_pressureTest _ b)
  split
  · refine State.worksOn_trans ?_ (State.worksOn_fillHeld _ b _)
    exact State.worksOn_trans (s.worksOn_updFrame b f.index _) (State.worksOn_updCoord _ b _)
  · exact State.worksOn_trans (s.worksOn_updFrame b f.index _) (State.worksOn_updCoord _ b _)

theorem State.worksOn_decideFate (s : State) (b : BindingNo) (i : Nat) : s.worksOn (s.decideFate b i) b := by
  unfold State.decideFate
  split
  · exact s.worksOn_refl b
  · dsimp only
    split
    · exact s.worksOn_yieldFrame b i
    · split
      · exact s.worksOn_redFrame b _
      · split
        · exact s.worksOn_writeFrame b i _ _
        · exact s.worksOn_holdFrame b _

theorem State.worksOn_accountComplete (s : State) (b : BindingNo) (f : FrameRecord) :
    s.worksOn (s.accountComplete b f) b := by
  refine State.worksOn_trans ?_ (State.worksOn_decideFate _ b _)
  refine State.worksOn_trans ?_ (State.worksOn_updFrame _ b _ _)
  refine State.worksOn_trans ?_ (State.worksOn_takeClosure _ b _)
  exact State.worksOn_trans (s.worksOn_colourFrame b f) (State.worksOn_updAcct _ b _)

/-! ### The window -/

theorem State.worksOn_setSlot (s : State) (b : BindingNo) (i : Nat) (v : Slot) : s.worksOn (s.setSlot b i v) b :=
  s.worksOn_updAsm b _

theorem State.worksOn_advanceBase (s : State) (b : BindingNo) : s.worksOn (s.advanceBase b) b := by
  unfold State.advanceBase
  split
  · exact s.worksOn_updAsm b _
  · exact s.worksOn_refl b

theorem State.worksOn_countClosure (s : State) (b : BindingNo) (o : Closure) : s.worksOn (s.countClosure b o) b := by
  unfold State.countClosure
  split
  all_goals first | exact s.worksOn_count b _ _ | exact s.worksOn_refl b

theorem State.worksOn_closeSlot (s : State) (b : BindingNo) (i : Nat) (o : Closure) : s.worksOn (s.closeSlot b i o) b := by
  unfold State.closeSlot
  dsimp only
  refine State.worksOn_trans ?_ (State.worksOn_countClosure _ b o)
  refine State.worksOn_trans ?_ (State.worksOn_setSlot _ b i _)
  split
  · exact s.worksOn_freeFrame b _
  · exact s.worksOn_refl b

theorem State.worksOn_handGaps (s : State) (b : BindingNo) (ranges : List (Nat × Nat)) : s.worksOn (s.handGaps b ranges) b :=
  State.worksOn_foldl _ (fun s (_ : Nat × Nat) => s.worksOn_ownGap b _ _) _ s

theorem State.worksOn_closeSlots (s : State) (b : BindingNo) (cs : List (Nat × Closure)) (extra : List (Nat × Nat)) :
    s.worksOn (s.closeSlots b cs extra) b := by
  refine State.worksOn_trans ?_ (State.worksOn_handGaps _ b _)
  refine State.worksOn_trans ?_ (State.worksOn_foldl _ (fun s o => s.worksOn_takeClosure b o) _ _)
  refine State.worksOn_trans ?_ (State.worksOn_foldl _ (fun s (c : Nat × Closure) => s.worksOn_takeClosure b c.2) cs _)
  refine State.worksOn_trans ?_ (State.worksOn_count _ b _ _)
  exact State.worksOn_foldl _ (fun s (c : Nat × Closure) => s.worksOn_closeSlot b c.1 c.2) cs s

theorem State.worksOn_enterFinishing (s : State) (b : BindingNo) (r : FinishReason) :
    s.worksOn (s.enterFinishing b r) b := by
  unfold State.enterFinishing
  dsimp only
  split
  · exact State.worksOn_trans (s.worksOn_updBinding b _) (State.worksOn_closeSlots _ b _ _)
  · exact s.worksOn_updBinding b _

theorem State.worksOn_beyondEnd (s : State) (b : BindingNo) : s.worksOn (s.beyondEnd b) b := s.worksOn_enterFinishing b _

theorem State.worksOn_completeFrame (s : State) (b : BindingNo) (i k : Nat) : s.worksOn (s.completeFrame b i k) b := by
  unfold State.completeFrame
  dsimp only
  refine State.worksOn_trans ?_ (State.worksOn_advanceBase _ b)
  split
  · exact State.worksOn_trans (s.worksOn_setSlot b i _) (State.worksOn_count _ b _ _)
  · refine State.worksOn_trans ?_ (State.worksOn_accountComplete _ b _)
    exact State.worksOn_trans (s.worksOn_setSlot b i _) (State.worksOn_count _ b _ _)

theorem State.worksOn_abandonFrame (s : State) (b : BindingNo) (i k : Nat) (d : Time) :
    s.worksOn (s.abandonFrame b i k d) b := by
  refine State.worksOn_trans ?_ (State.worksOn_count _ b _ _)
  exact State.worksOn_trans (s.worksOn_freeFrame b k) (State.worksOn_setSlot _ b i _)

theorem State.worksOn_placeCell (s : State) (b : BindingNo) (i : Nat) (f : FrameRecord) (p : Piece) :
    s.worksOn (s.placeCell b i f p) b := by
  unfold State.placeCell
  dsimp only
  refine State.worksOn_trans ?_ (State.worksOn_pressureTest _ b)
  split
  · refine State.worksOn_trans ?_ (State.worksOn_completeFrame _ b _ _)
    refine State.worksOn_trans ?_ (State.worksOn_count _ b _ _)
    exact s.worksOn_frames b _ _
  · refine State.worksOn_trans ?_ (State.worksOn_count _ b _ _)
    exact s.worksOn_frames b _ _

theorem State.worksOn_fillingPiece (s : State) (b : BindingNo) (i k : Nat) (d : Time) (p : Piece) :
    s.worksOn (s.fillingPiece b i k d p) b := by
  unfold State.fillingPiece
  split
  · exact s.worksOn_refl b
  · split
    · exact s.worksOn_count b _ _
    · split
      · exact s.worksOn_count b _ _
      · split
        · exact s.worksOn_abandonFrame b i k d
        · exact s.worksOn_placeCell b i _ p

theorem State.worksOn_countSkip (s : State) (b : BindingNo) (r : SkipReason) : s.worksOn (s.countSkip b r) b := by
  unfold State.countSkip
  split
  all_goals first | exact s.worksOn_count b _ _ | exact s.worksOn_refl b

theorem State.worksOn_openFrame (s : State) (b : BindingNo) (i : Nat) (own : Option Time) (p : Piece) :
    s.worksOn (s.openFrame b i own p) b := by
  unfold State.openFrame
  dsimp only
  split
  · split
    · refine State.worksOn_trans ?_ (State.worksOn_beyondEnd _ b)
      refine State.worksOn_trans ?_ (State.worksOn_countSkip _ b _)
      refine State.worksOn_trans ?_ (State.worksOn_setSlot _ b i _)
      exact State.worksOn_trans (s.worksOn_updAsm b _) (State.worksOn_updAsm _ b _)
    · refine State.worksOn_trans ?_ (State.worksOn_countSkip _ b _)
      refine State.worksOn_trans ?_ (State.worksOn_setSlot _ b i _)
      exact State.worksOn_trans (s.worksOn_updAsm b _) (State.worksOn_updAsm _ b _)
  · refine State.worksOn_trans ?_ (State.worksOn_fillingPiece _ b i _ _ p)
    refine State.worksOn_trans ?_ (State.worksOn_setSlot _ b i _)
    refine State.worksOn_trans ?_ (State.worksOn_frames _ b _ _)
    exact State.worksOn_trans (s.worksOn_updAsm b _) (State.worksOn_updAsm _ b _)

theorem State.worksOn_forceAdvance (s : State) (b : BindingNo) (k : Nat) : s.worksOn (s.forceAdvance b k) b :=
  State.worksOn_trans (s.worksOn_closeSlots b _ _) (State.worksOn_updAsm _ b _)

theorem State.worksOn_pieceInSlot (s : State) (b : BindingNo) (i : Nat) (p : Piece) : s.worksOn (s.pieceInSlot b i p) b := by
  unfold State.pieceInSlot
  split
  · exact s.worksOn_refl b
  · exact s.worksOn_openFrame b i _ p
  · exact s.worksOn_fillingPiece b i _ _ p
  · exact s.worksOn_refl b
  · exact s.worksOn_count b _ _

theorem State.worksOn_recordingPiece (s : State) (b : BindingNo) (p : Piece) : s.worksOn (s.recordingPiece b p) b := by
  unfold State.recordingPiece
  dsimp only
  split
  · exact s.worksOn_count b _ _
  · split
    · exact s.worksOn_count b _ _
    · split
      · exact s.worksOn_pieceInSlot b _ p
      · exact State.worksOn_trans (State.worksOn_trans (s.worksOn_forceAdvance b _) (State.worksOn_advanceBase _ b))
          (State.worksOn_pieceInSlot _ b _ p)

theorem State.worksOn_finishingPiece (s : State) (b : BindingNo) (p : Piece) : s.worksOn (s.finishingPiece b p) b := by
  unfold State.finishingPiece
  dsimp only
  split
  · split
    · exact s.worksOn_fillingPiece b _ _ _ p
    · exact s.worksOn_refl b
    · exact s.worksOn_count b _ _
  · exact s.worksOn_count b _ _

theorem State.worksOn_armedPiece (s : State) (b : BindingNo) (p : Piece) : s.worksOn (s.armedPiece b p) b := by
  unfold State.armedPiece
  dsimp only
  split
  · exact s.worksOn_count b _ _
  · exact State.worksOn_trans (s.worksOn_updBinding b _) (State.worksOn_recordingPiece _ b p)

theorem State.worksOn_noteArrival (s : State) (b : BindingNo) : s.worksOn (s.noteArrival b) b := by
  unfold State.noteArrival
  dsimp only
  split
  · exact State.worksOn_trans (State.worksOn_trans (s.worksOn_updAsm b _) (State.worksOn_updAcct _ b _))
      (State.worksOn_recomputeGrade _ b)
  · exact s.worksOn_updAsm b _

/-- A piece routed to a binding works on that binding alone (R40). -/
theorem State.worksOn_routePiece (s : State) (b : BindingNo) (p : Piece) : s.worksOn (s.routePiece b p) b := by
  unfold State.routePiece
  split
  · exact s.worksOn_refl b
  · exact s.worksOn_refl b
  · exact State.worksOn_trans (s.worksOn_noteArrival b) (State.worksOn_armedPiece _ b p)
  · exact State.worksOn_trans (s.worksOn_noteArrival b) (State.worksOn_recordingPiece _ b p)
  · exact State.worksOn_trans (s.worksOn_noteArrival b) (State.worksOn_finishingPiece _ b p)

/-- The deadline of a slot works on its binding alone (R55). -/
theorem State.worksOn_slotDeadline (s : State) (b : BindingNo) (n : FrameCount) : s.worksOn (s.slotDeadline b n) b := by
  unfold State.slotDeadline
  dsimp only
  split
  · split
    · exact s.worksOn_refl b
    · split
      · exact s.worksOn_refl b
      · split
        · split
          · exact State.worksOn_trans (s.worksOn_closeSlots b _ _) (State.worksOn_advanceBase _ b)
          · exact s.worksOn_refl b
        · exact s.worksOn_refl b
  · exact s.worksOn_refl b

/-! ### Stops -/

theorem State.worksOn_lowerStop (s : State) (b : BindingNo) (p : Nat) : s.worksOn (s.lowerStop b p) b :=
  s.worksOn_updBinding b _

theorem State.worksOn_releaseAbove (s : State) (b : BindingNo) (e : Nat) : s.worksOn (s.releaseAbove b e) b :=
  State.worksOn_trans (s.worksOn_updCoord b _)
    (State.worksOn_foldl _ (fun s (h : Held) => s.worksOn_releaseFrame b h.frame) _ _)

theorem State.worksOn_endAbove (s : State) (b : BindingNo) : s.worksOn (s.endAbove b) b :=
  State.worksOn_trans (s.worksOn_releaseAbove b _) (State.worksOn_closeSlots _ b _ _)

/-- A STOP with a position works on its binding alone (R13). -/
theorem State.worksOn_stopAt (s : State) (b : BindingNo) (p : Nat) : s.worksOn (s.stopAt b p) b := by
  unfold State.stopAt
  dsimp only
  split
  · exact s.worksOn_refl b
  · refine State.worksOn_trans (s.worksOn_lowerStop b p) ?_
    split
    · split
      · exact State.worksOn_enterFinishing _ b _
      · exact State.worksOn_refl _ b
    · split <;> split
      · exact State.worksOn_trans (State.worksOn_endAbove _ b) (State.worksOn_enterFinishing _ b _)
      · exact State.worksOn_endAbove _ b
      · exact State.worksOn_enterFinishing _ b _
      · exact State.worksOn_refl _ b
    · split
      · exact State.worksOn_endAbove _ b
      · exact State.worksOn_refl _ b
    · exact State.worksOn_refl _ b
    · exact State.worksOn_refl _ b

/-- An immediate stop works on its binding alone (R15). -/
theorem State.worksOn_stopNow (s : State) (b : BindingNo) : s.worksOn (s.stopNow b) b := by
  unfold State.stopNow
  dsimp only
  split
  · exact State.worksOn_trans (s.worksOn_lowerStop b 0) (State.worksOn_enterFinishing _ b _)
  · exact s.worksOn_refl b
  · exact s.worksOn_refl b
  · split
    · split
      · exact State.worksOn_trans (s.worksOn_lowerStop b _) (State.worksOn_trans (State.worksOn_releaseAbove _ b _)
          (State.worksOn_trans (State.worksOn_closeSlots _ b _ _) (State.worksOn_enterFinishing _ b _)))
      · exact State.worksOn_trans (s.worksOn_lowerStop b _)
          (State.worksOn_trans (State.worksOn_releaseAbove _ b _) (State.worksOn_closeSlots _ b _ _))
    · exact s.worksOn_refl b

/-! ### Timed work and peer notices -/

theorem State.worksOn_settle (s : State) (b : BindingNo) : s.worksOn (s.settle b) b := by
  unfold State.settle
  split
  · exact s.worksOn_refl b
  · split
    · exact State.worksOn_trans (s.worksOn_updCoord b _) (State.worksOn_changeView _ b _)
    · exact s.worksOn_refl b

theorem State.worksOn_takeDue (s : State) (b : BindingNo) : s.worksOn (s.takeDue b) b := by
  unfold State.takeDue
  split
  · exact State.worksOn_trans (s.worksOn_offerTake b) (State.worksOn_updCoord _ b _)
  · exact s.worksOn_refl b

theorem State.worksOn_holdDue (s : State) (b : BindingNo) : s.worksOn (s.holdDue b) b := by
  unfold State.holdDue
  split
  · split
    · exact s.worksOn_refl b
    · exact s.worksOn_fillHeld b _
  · exact s.worksOn_refl b

theorem State.worksOn_extentDue (s : State) (b : BindingNo) : s.worksOn (s.extentDue b) b := by
  unfold State.extentDue
  dsimp only
  split
  · split
    · exact State.worksOn_trans (s.worksOn_updCoord b _)
        (State.worksOn_trans (State.worksOn_updCoord _ b _) (State.worksOn_offer _ b _))
    · exact s.worksOn_updCoord b _
  · exact s.worksOn_refl b

theorem State.worksOn_fallSilent (s : State) (b : BindingNo) : s.worksOn (s.fallSilent b) b := by
  unfold State.fallSilent
  dsimp only
  split
  · exact State.worksOn_trans (s.worksOn_updAcct b _) (State.worksOn_recomputeGrade _ b)
  · exact s.worksOn_refl b

theorem State.worksOn_expireTaker (s : State) (b : BindingNo) (x : Station) : s.worksOn (s.expireTaker b x) b := by
  unfold State.expireTaker
  dsimp only
  split
  · exact State.worksOn_trans (s.worksOn_updCoord b _) (State.worksOn_evaluate _ b)
  · exact s.worksOn_refl b

theorem State.worksOn_insertAll (s : State) (b : BindingNo) (k : ExtentKind) (rs : List (Nat × Nat)) :
    s.worksOn (s.insertAll b k rs) b :=
  State.worksOn_foldl _ (fun s (r : Nat × Nat) => s.worksOn_insertExtent b k r.1 r.2) rs s

theorem State.worksOn_resolveJob (s : State) (j : Job) : s.worksOn (s.resolveJob j) j.binding := by
  unfold State.resolveJob
  dsimp only
  split
  · exact State.worksOn_trans (s.worksOn_setQueue _ _ _) (State.worksOn_trans (State.worksOn_insertExtent _ _ _ _ _)
      (State.worksOn_trans (State.worksOn_yieldCovered _ _ _) (State.worksOn_trans (State.worksOn_report _ _ _)
        (State.worksOn_giveBack _ _ _))))
  · exact State.worksOn_trans (s.worksOn_setQueue _ _ _)
      (State.worksOn_trans (State.worksOn_count _ _ _ _) (State.worksOn_giveBack _ _ _))

/-! ### What becomes of the runs of a new EXTENT (R177) -/

theorem last_unique {p q : List Run} {x y : Run} (e : p ++ [x] = q ++ [y]) : p = q ∧ x = y := by
  simpa using List.append_inj' e rfl

/-- A run that adjoins the last one joins it. -/
theorem mergesTo_joins {pre rs merged rest : List Run} {l r : Run} (h : r.start = l.stop ∧ r.kind = l.kind)
    (k : mergesTo (pre ++ [⟨l.start, r.stop, l.kind⟩]) rs merged rest) : mergesTo (pre ++ [l]) (r :: rs) merged rest := by
  refine ⟨fun p x e _ _ => ?_, fun hn => absurd h (hn pre l rfl)⟩
  obtain ⟨rfl, rfl⟩ := last_unique e
  exact k

/-- Any other run is appended where it finds room. -/
theorem mergesTo_appends {pre rs merged rest : List Run} {l r : Run} (h : ¬ (r.start = l.stop ∧ r.kind = l.kind))
    (room : (pre ++ [l]).length < 6) (k : mergesTo (pre ++ [l] ++ [r]) rs merged rest) :
    mergesTo (pre ++ [l]) (r :: rs) merged rest := by
  refine ⟨fun p x e h1 h2 => ?_, fun _ => ⟨fun _ => k, fun full => absurd room (by omega)⟩⟩
  obtain ⟨rfl, rfl⟩ := last_unique e
  exact absurd ⟨h1, h2⟩ h

/-- A run that finds no room is left over, and all behind it. -/
theorem mergesTo_leaves {pre rs : List Run} {l r : Run} (h : ¬ (r.start = l.stop ∧ r.kind = l.kind))
    (full : 6 ≤ (pre ++ [l]).length) : mergesTo (pre ++ [l]) (r :: rs) (pre ++ [l]) (r :: rs) := by
  refine ⟨fun p x e h1 h2 => ?_, fun _ => ⟨fun room => absurd full (by omega), fun _ => ⟨rfl, rfl⟩⟩⟩
  obtain ⟨rfl, rfl⟩ := last_unique e
  exact absurd ⟨h1, h2⟩ h

/-! ### What an abort does to the class queues -/

theorem State.dropJobsOf_queue (s : State) (b : BindingNo) (c : JobClass) :
    (s.dropJobsOf b).store.queue c = (s.store.queue c).filter (fun j => j.binding ≠ b) := by
  cases c <;> rfl

theorem State.dropJobsOf_current (s : State) (b : BindingNo) (c : JobClass) :
    (s.dropJobsOf b).store.current c = if (s.dropJobsOf b).store.queue c = [] then 0 else s.store.current c := by
  cases c <;> rfl

/-- What giving back a user of a binding's own record can do: nothing, or what giving it back does. -/
theorem State.giveBackOwn_cases (s : State) (b : BindingNo) (i : Nat) :
    s.giveBackOwn b i = s ∨ (∃ f, s.frame? i = some f ∧ f.binding = b) ∧ s.giveBackOwn b i = s.giveBack i := by
  unfold State.giveBackOwn
  cases h : s.frame? i with
  | none => exact .inl rfl
  | some f =>
    dsimp only
    split
    · exact .inr ⟨⟨f, rfl, ‹_›⟩, rfl⟩
    · exact .inl rfl

/-! ### The end of a drain -/

/-- What becoming IDLE does: the binding's record, and the entry bound to it. -/
theorem State.becomeIdle_eq (s : State) (b : BindingNo) :
    s.becomeIdle b = { s with
      bindings := (s.becomeIdle b).bindings
      sources := s.sources.map (fun e => if e.bound = some b then { e with bound := none } else e) } := by
  simp only [State.becomeIdle, State.updBinding, SourceEntry.unbind]

theorem State.becomeIdle_others (s : State) (b : BindingNo) : s.othersSame (s.becomeIdle b) b := by
  simp +contextual [State.becomeIdle, State.othersSame, State.binding, State.updBinding, Fin.val_inj, eq_comm]

theorem State.becomeIdle_binding (s : State) (b : BindingNo) : (s.becomeIdle b).binding b = (s.binding b).afterIdle := by
  simp [State.becomeIdle, State.binding, State.updBinding, Binding.afterIdle]

/-- What the end of a drain can do (R2, R19): a DONE becomes pending or is so already, or a binding whose DONE is suppressed
becomes IDLE. -/
theorem State.drained_cases (s : State) (b : BindingNo) :
    (s.binding b).donePending = .no ∧ s.drained b = s.updBinding b (fun r => { r with donePending := .yes }) ∨
      (s.binding b).donePending = .yes ∧ s.drained b = s ∨
      (s.binding b).donePending = .suppressed ∧ s.drained b = s.becomeIdle b := by
  unfold State.drained
  cases (s.binding b).donePending <;> simp

end Sys2Proof.Machine
end

