-- ==== Sys2Proof/Tests/Slice0.lean ====
section
/-! SUPPORT. Tests of the model on small states, each with an expected value from the manual or computed by hand from it,
the smoke tests of WellFormed, and for every statement with hypotheses a state and operands that meet them. -/

namespace Sys2Proof.Tests

set_option Elab.async false

open Sys2Proof.Machine

/-! ## Small states -/

/-- An option record of station 9: its upper three station bits are not 0, and its CRC covers them (R202). -/
def record9 : Vector Byte 71 :=
  #v[41, 255, 0, 10, 20, 6, 3, 1, 0, 100, 5, 2, 5, 220, 1, 244, 2, 0, 0, 156, 64, 0, 0, 0, 1, 1, 2, 2, 3, 3, 4, 4, 5, 5, 6,
    7, 7, 0, 0, 0, 50, 0, 100, 0, 150, 0, 200, 0, 250, 1, 44, 1, 94, 1, 144, 1, 194, 1, 244, 2, 38, 2, 88, 2, 138, 2,
    188, 2, 238, 203, 179]

/-- Options of station 9. -/
def opts9 : Options :=
  { station := 9, enables := 255, ageTimeout := 1, storeTimeout := 20, weightLive := 6, weightFill := 3,
    weightBrowse := 1, pace := 100, window := 5, margin := 2, takerTimeout := 1500, presence := 500, extentPeriod := 2,
    housePeriod := 40000, grades := [0, 0, 0, 1, 1, 2, 2, 3, 3, 4, 4, 5, 5, 6, 7, 7],
    thinning := List.replicate 16 512 }

/-- A running node with nothing to do. -/
def up : State := { node := .running, loaded := true, now := 1000, opts := opts9, store := { link := .up } }

/-- A request for 100 positions at equal rates. -/
def req1 : Request :=
  { clip := 1, source := 7, stream := 0, anchor := 100, hn := 1, hd := 1, fn := 1, fd := 1, clipLength := 100,
    slotCells := 4, browseCells := 4, divisor := 1, audio := 1, rate := 1000, cbs := 0, ebs := 2000, patience := 0,
    essenceBase := 0, indexBase := 0x10000000, browseBase := 0x20000000 }

/-- A binding that records that request at PRIMARY, with the window at the anchor. -/
def rec1 : Binding :=
  { state := .recording, clip := some 1, request := some req1, terms := clampRequest req1, effEnd := 100,
    asm := { base := some 100, period := 40000, opening := some (100, 900), lastArrival := some 900 }
    acct := { committed := 4096, excess := 2000, lastQuality := some 11, grade := 5 }
    coord := { role := .primary, primary := some 9 } }

/-- The entry of its source. -/
def entry7 : SourceEntry :=
  { source := 7, stream := 0, ports := 1, lastCount := 100, lastHeard := 900, quality := 11, bound := some 0 }

/-- The node at work on the first binding. -/
def busy : State := { up with bindings := up.bindings.set 0 rec1, sources := [entry7] }

/-- The same with the first binding changed. -/
def busyWith (f : Binding → Binding) : State := busy.updBinding 0 f

/-- The same with the coordination state of the first binding changed. -/
def busyCoord (f : Coordination → Coordination) : State := busy.updCoord 0 f

/-- A frame of two pieces at position 0 that holds its first. -/
def frame0 : FrameRecord :=
  { index := 0, binding := 0, count := 100, spanStart := 0, spanEnd := 1, pieces := 2, base := 1, audio := 1,
    quality := some 11, cells := [(0, [1, 2, 3])], byteTotal := 3, maxima := Vector.replicate 4 0,
    peaks := Vector.replicate 4 0, state := .assembling, users := 0, colour := none }

/-- A state with that frame, as changed, in the frame table. -/
def withFrame0 (s : State) (g : FrameRecord → FrameRecord) : State :=
  { s with frames := [g frame0], freeCells := 16383 }

/-- The node gathering that frame. -/
def filling : State :=
  withFrame0 (busy.updAsm 0 (fun a => { a with slots := a.slots.set 0 (.filling 0 9000) })) id

/-- The first piece of the frame, with its CRC as a separate program computed it. -/
def piece0 : Piece :=
  { source := 7, stream := 0, quality := 11, count := 100, index := 0, pieces := 2, base := 1, audio := 1,
    payload := [1, 2, 3], crc := 0x4009046C }

/-- The second piece of the frame. -/
def piece1 : Piece := { piece0 with index := 1, crc := 0xDBAC4803 }

/-- A piece of a source that is not known. -/
def piece8 : Piece := { piece0 with source := 8, crc := 0x3C96744D }

/-- A piece whose CRC agrees and whose quality code is out of its range. -/
def pieceQ16 : Piece := { piece0 with quality := 16, crc := 0x937D2B1A }

/-- An essence job of the first binding with one transaction ready. -/
def job0 : Job :=
  { cls := .live, kind := .essence, binding := 0, frame := 0, start := 0, stop := 1, phase := .body, todo := [0],
    left := 1, retried := [] }

/-- The node with that job, as changed, in LIVE and its frame WRITING. -/
def writing (g : Job → Job) : State :=
  let s := withFrame0 busy (fun f => { f with state := .writing, users := 2, colour := some .green })
  { s with store := { s.store with live := [g job0] } }

/-- A transaction with an owner, timing out at 21,000. -/
def txOf (o : TxOwner) : Transaction := { owner := o, retried := false, address := 0, data := [], deadline := 21000 }

/-- A state with tag 3 busy for an owner. -/
def flying (s : State) (o : TxOwner) : State := s.setTag 3 (.busy (txOf o))

/-- The transaction of that job in flight. -/
def inFlight (g : Job → Job) : State := flying (writing (fun j => { g j with todo := [] })) (.job .essence 0 0 0)

/-- The state that a command gives, where it gives one. -/
def after (c : Instr) (s : State) : State :=
  match exec c s with
  | .next u => u
  | .fault _ => s
  | .refused _ => s

/-! ## Formats -/

/-- The check value of R198. -/
theorem test_crc32 : crc32 [49, 50, 51, 52, 53, 54, 55, 56, 57] = 0xCBF43926 := by decide +kernel

/-- The check value of R199. -/
theorem test_crc16 : crc16 [49, 50, 51, 52, 53, 54, 55, 56, 57] = 0x29B1 := by decide +kernel

/-- An ABORT of clip 40117 from station 3, its frame written out. -/
theorem test_wire_abort :
    wireFrame 3 0x13 [0, 0, 0x9C, 0xB5] = [0x9B, 0x26, 3, 0x13, 4, 0, 0, 0x9C, 0xB5, 0xDE, 0xD6] := by decide +kernel

theorem test_read_abort : commandOf 5 3 [] 0x13 [0, 0, 0x9C, 0xB5] = some (.abort 5 3 40117) := by decide +kernel

theorem test_read_immediate_stop :
    commandOf 5 3 [] 0x12 [0, 0, 0, 1, 0xFF, 0xFF, 0xFF] = some (.immediateStop 5 3 1) ∧
      commandOf 5 3 [] 0x12 [0, 0, 0, 1, 0xFF, 0xFF, 0xFE] = some (.stop 5 3 1 0xFFFFFE) := by decide +kernel

theorem test_read_query :
    commandOf 5 3 [] 0x14 [9, 0, 0, 0, 0] = some (.queryNode 5 3 9) ∧
      commandOf 5 3 [] 0x14 [9, 0, 0, 0, 1] = some (.queryBinding 5 3 9 1) := by decide +kernel

theorem test_read_restart : commandOf 5 4 [] 0x15 [9] = some (.restart 5 4 9) := by decide +kernel

theorem test_read_take :
    commandOf 5 4 [] 0x22 [0, 0, 0x9C, 0xB5, 5, 1, 12] = some (.take 5 4 40117 5 1 12) := by decide +kernel

theorem test_read_extent :
    commandOf 5 4 [] 0x24 [0, 0, 0, 1, 2, 0, 0, 5, 0, 0, 1, 0, 0, 4, 1] =
      some (.extent 5 4 1 2 5 [⟨1, 4, 1⟩]) := by decide +kernel

theorem test_read_done : commandOf 5 4 [] 0x25 [0, 0, 0, 1, 3, 0, 1, 0] = some (.done 5 4 1 3 256) := by decide +kernel

/-- A piece framed from its bytes on the line is the piece (section 11.2). -/
theorem test_frame_piece : framePiece (pieceBytes piece0) = some piece0 := by decide +kernel

/-- The FRAME and REPEAT records of the worked figures of section 11.5. -/
theorem test_records :
    frameRecordBytes { audio := 2, anchor := 73520, slotCells := 1024 }
      { frame0 with count := 73820, spanStart := 300, spanEnd := 302, pieces := 100, base := 90, audio := 4,
                    quality := some 12, byteTotal := 100352, peaks := #v[36, 3, 0, 0] } =
      [0x5A, 2, 12, 0, 100, 0, 90, 0, 4, 0, 1, 44, 0, 1, 0x20, 0x5C, 0, 0, 1, 44, 1, 0x88, 0, 0, 0, 36, 0, 3, 0, 0, 0, 0] ∧
    repeatRecordBytes { essenceBase := 0x10000000, slotCells := 128 } 300 301 =
      [0xA5, 0, 0, 0, 0, 1, 45, 0, 0, 1, 44, 0, 0, 0, 0x12, 0x58, 0, 0, 0, 0, 0, 0, 0, 0, 0, 0, 0, 0, 0, 0, 0, 0] := by
  decide +kernel

/-! ## Operations, on the manual's own figures -/

/-- The delta of R70's example. -/
theorem test_delta_wraps : delta 0xFFFFFFF0 0x00000005 = 21 := by decide +kernel

/-- The occupancy averages of R158's table, and the band after the third tick. -/
theorem test_occupancy :
    approach 0 8000 16 = 500 ∧ approach 500 8000 16 = 968 ∧ approach 968 8000 16 = 1407 ∧ approach 1407 8000 16 = 1819 ∧
      ({ occupancy := 1407 } : BrowseUnit).band = 1 := by decide +kernel

/-- The early-release levels of R116's table. -/
theorem test_pressure_levels : 3 * (16384 / 1) / 4 = 12288 ∧ 3 * (16384 / 16) / 4 = 768 := by decide

/-- Overlapping areas and an area that ends at the top of the address space (R8, codes 15 and 12). -/
theorem test_request_checks :
    failedCheck 1 (clampRequest req1) = none ∧
      failedCheck 1 (clampRequest { req1 with indexBase := 1024 }) = some 15 ∧
      failedCheck 1 (clampRequest { req1 with essenceBase := 0xFFFFFFF9C000 }) = none ∧
      failedCheck 1 (clampRequest { req1 with essenceBase := 0xFFFFFFF9C400 }) = some 12 ∧
      failedCheck 0 (clampRequest { req1 with hn := 0 }) = some 1 := by decide +kernel

/-- A run that adjoins the newest one merges; a full buffer loses its oldest (R122). -/
theorem test_report_buffer :
    enterReport [⟨4, 8, .gap⟩] ⟨1, 4, .gap⟩ = ([⟨1, 8, .gap⟩], 0) ∧
      enterReport (List.replicate 12 ⟨4, 8, .gap⟩) ⟨1, 4, .written⟩ =
        (List.replicate 11 ⟨4, 8, .gap⟩ ++ [⟨1, 4, .written⟩], 1) := by decide +kernel

/-- A higher kind stays as an island and equal neighbours merge (R107). -/
theorem test_insertion :
    insertInto 100 .ownGap 2 8 [⟨0, 2, .ownGap⟩, ⟨4, 5, .ownWritten⟩, ⟨7, 9, .primaryGap⟩] =
      [⟨0, 4, .ownGap⟩, ⟨4, 5, .ownWritten⟩, ⟨5, 8, .ownGap⟩, ⟨8, 9, .primaryGap⟩] := by decide +kernel

/-- The magnitude of the most negative sample is brought to 8,388,607 (R95). -/
theorem test_magnitude : magnitude 0x80 0 0 = 8388607 ∧ magnitude 0xFF 0xFF 0xFF = 1 := by decide +kernel

/-! ## WellFormed refuses an ill-formed command of each kind -/

theorem test_wf_length : (Instr.payloadLengthBad 0 0 1024 []).wf = false ∧ (Instr.payloadLengthBad 0 0 1025 []).wf = true := by
  decide +kernel
theorem test_wf_piece : (Instr.pieceFramed 0 0 { piece0 with payload := [] } []).wf = false := by decide +kernel
theorem test_wf_piece_long :
    (Instr.pieceFramed 0 0 { piece0 with payload := List.replicate 1025 0 } []).wf = false := by decide +kernel
theorem test_wf_meter : (Instr.meterCredit 999).wf = false := by decide +kernel
theorem test_wf_silent : (Instr.bindingSilent 1001 0).wf = false := by decide +kernel
theorem test_wf_age : (Instr.sourceAgeOut 1001 7 0).wf = false := by decide +kernel
theorem test_wf_expiry : (Instr.takerExpiry 1001 0 3).wf = false := by decide +kernel
theorem test_wf_occupancy : (Instr.occupancyUpdate 1001).wf = false := by decide +kernel
theorem test_wf_stop : (Instr.stop 0 3 1 0xFFFFFF).wf = false := by decide +kernel
theorem test_wf_query : (Instr.queryBinding 0 3 9 0).wf = false := by decide +kernel
theorem test_wf_extent : (Instr.extent 0 4 1 0 0 (List.replicate 7 ⟨0, 1, 1⟩)).wf = false := by decide +kernel
theorem test_wf_heard : (Instr.noticeNotDelivered 0 [0x9B, 0x27, 3]).wf = false := by decide +kernel

/-- No row of the table gives bits. -/
theorem test_table_word : decodeTableWord 8 0 = none ∧ up.withFetchWord 8 0 = up := by decide +kernel

/-! ## One step of each command -/

theorem test_cold_reset : exec .coldReset busy = .next State.reset := rfl

/-- Station 9: ACE1h and 1D0Fh combined with 0909h. -/
theorem test_option_load :
    let s := after (.optionLoad 2000 record9) State.reset
    s.node = .running ∧ s.browse.lfsr = 0xA5E8 ∧ s.lane.lfsr = 0x1406 ∧ s.house.period = 40000 ∧ s.opts.takerTimeout = 1500 ∧
      s.lane.queue.length = 1 := by decide +kernel

theorem test_signal_present : ((after (.signalPresent 2000 2) up).port 2).line = .seeking := by decide +kernel

theorem test_signal_lost :
    let s := after (.signalLost 2000 0 []) (busy.updPort 0 (fun q => { q with line := .locked, signal := true }))
    (s.port 0).line = .dark ∧ (s.port 0).lockLosses = 1 ∧ s.sources.map (fun e => e.ports) = [0] ∧
      s.lane.queue = [.source .ports 7 0 0 100 11 true] := by decide +kernel

theorem test_payload_length_bad :
    (after (.payloadLengthBad 2000 1 0 []) (up.updPort 1 (fun q => { q with line := .seeking, good := 7 }))).port 1 =
      { line := .seeking, badPieces := 1 } := by decide +kernel

/-- The sixteenth good piece locks the port and is learned (R29, R38). -/
theorem test_piece_framed :
    let s := after (.pieceFramed 2000 1 piece8 []) (up.updPort 1 (fun q => { q with line := .seeking, good := 15 }))
    (s.port 1).line = .locked ∧
      s.sources = [{ source := 8, stream := 0, ports := 2, lastCount := 100, lastHeard := 2000, quality := 11, bound := none }] := by
  decide +kernel

/-- A piece whose quality code is out of its range is bad although its CRC agrees. -/
theorem test_piece_bad_header :
    (after (.pieceFramed 2000 1 pieceQ16 []) (up.updPort 1 (fun q => { q with line := .locked, bad := 7 }))).port 1 =
      { line := .seeking, badPieces := 1, lockLosses := 1 } := by decide +kernel

theorem test_slot_deadline :
    let s := after (.slotDeadline 9000 0 100) filling
    s.freeCells = 16384 ∧ (s.binding 0).counters.incomplete = 1 ∧ (s.binding 0).asm.base = some 101 ∧
      (s.binding 0).coord.map = [⟨0, 1, .ownGap⟩] ∧ (s.binding 0).acct.grade = 4 := by decide +kernel

/-- C = 4000 and X = 100 with R = 1000 and CBS = 4096: 904 bytes go to the excess bucket. -/
theorem test_meter_credit :
    let s := after (.meterCredit 2000) (busyWith (fun r => { r with acct := { r.acct with committed := 4000, excess := 100 } }))
    (s.binding 0).acct.committed = 4096 ∧ (s.binding 0).acct.excess = 1004 := by decide +kernel

/-- The last arrival at 900 lies in millisecond 0, so the tick of millisecond 1000 finds it silent (R91, R183). -/
theorem test_binding_silent :
    let s := after (.bindingSilent 1000000 0) busy
    (s.binding 0).acct.silent = true ∧ (s.binding 0).acct.grade = 0 ∧ s.lane.queue = [.take 1 0 .primary (some 9)] := by
  decide +kernel

/-- Last heard in millisecond 0: removed at the tick of millisecond 1000, in RESTARTING without a notice, and never in
LISTENING (R35, R39, R41, R183). -/
theorem test_source_age_out :
    let s : State := { up with sources := [{ entry7 with bound := none }] }
    let u := after (.sourceAgeOut 1000000 7 0) { s with node := .restarting }
    (after (.sourceAgeOut 1000000 7 0) s).lane.queue = [.source .gone 7 0 0 100 11 false] ∧
      u.sources = [] ∧ u.lane.queue = [] ∧
      (after (.sourceAgeOut 1000000 7 0) { s with node := .listening }).sources = s.sources ∧
      (after (.sourceAgeOut 1000000 7 0) busy).sources = [entry7] := by decide +kernel

theorem test_taker_expiry :
    let s := after (.takerExpiry 1501000 0 3)
      (busyCoord (fun c => { c with takers := [⟨3, 7, 1000⟩, ⟨4, 2, 1000000⟩], role := .shadow, primary := some 3 }))
    (s.binding 0).coord.takers = [⟨4, 2, 1000000⟩] ∧ (s.binding 0).coord.role = .primary := by decide +kernel

theorem test_occupancy_update :
    (after (.occupancyUpdate 2000) { up with freeCells := 8384 }).browse.occupancy = 500 := by decide +kernel

theorem test_settle_deadline :
    let s := after (.settleDeadline 2000 0)
      (busyCoord (fun c => { c with role := .settling, primary := none, settle := some 2000, takers := [⟨3, 5, 1000⟩] }))
    (s.binding 0).coord.role = .shadow ∧ (s.binding 0).coord.primary = some 3 := by decide +kernel

theorem test_take_time :
    let s := after (.takeTime 2000 0) (busyCoord (fun c => { c with nextTake := 2000 }))
    (s.binding 0).coord.nextTake = 502000 ∧ s.lane.queue = [.take 1 5 .primary (some 9)] := by decide +kernel

/-- A held frame whose deadline the counter has reached goes to FILL. -/
theorem test_hold_deadline :
    let s := after (.holdDeadline 2000 0)
      (withFrame0 (busyCoord (fun c => { c with role := .shadow, held := [⟨0, 0, 1, 0⟩] })) (fun f => { f with state := .held }))
    s.store.fill.length = 1 ∧ (s.binding 0).counters.fills = 1 ∧ (s.binding 0).coord.held = [] ∧
      (s.binding 0).undecided = [0] := by decide +kernel

theorem test_extent_time :
    let s := after (.extentTime 2000 0) (busyCoord (fun c => { c with report := [⟨0, 3, .gap⟩], ownThrough := 3 }))
    s.lane.queue = [.extent 1 .primary 3 [⟨0, 3, .gap⟩]] ∧ (s.binding 0).coord.report = [] ∧
      (s.binding 0).coord.nextExtent = 2 := by decide +kernel

/-- A sample of 41,000 against 40,000 moves the period by 125 (R185). -/
theorem test_href_pulse :
    (after (.hrefPulse 42000)
        { up with house := { state := .referenced, period := 40000, counter := 7, lastFrame := 1000, byPulse := true } }).house =
      { state := .referenced, period := 40125, counter := 8, lastFrame := 42000, byPulse := true } := by decide +kernel

theorem test_free_run_entry :
    let s := after (.freeRunEntry 81000)
      { up with house := { state := .referenced, period := 40000, counter := 7, lastFrame := 1000, byPulse := true } }
    s.house = { state := .freeRun, period := 40000, counter := 8, lastFrame := 81000, byPulse := false } ∧
      s.counters.referenceLoss = 1 := by decide +kernel

theorem test_internal_house_frame :
    (after (.internalHouseFrame 41000) { up with house := { period := 40000, counter := 0xFFFFFFFF, lastFrame := 1000 } }).house =
      { period := 40000, counter := 0, lastFrame := 41000 } := by decide +kernel

/-- The grade of the source's quality code 11 is 5. -/
theorem test_record :
    let s := after (.record 2000 3 req1 []) { up with sources := [{ entry7 with bound := none }] }
    (s.binding 0).state = .armed ∧ (s.binding 0).acct.committed = 4096 ∧ s.sources.map (fun e => e.bound) = [some 0] ∧
      s.lane.queue = [.take 1 5 .settling none] := by decide +kernel

theorem test_record_declined :
    (after (.record 2000 3 { req1 with fd := 0 } []) { up with sources := [{ entry7 with bound := none }] }).lane.queue =
      [.decline 1 .badParams 5] := by decide +kernel

theorem test_stop :
    let s := after (.stop 2000 3 1 50) busy
    (s.binding 0).effEnd = 50 ∧ (s.binding 0).state = .recording ∧
      ((after (.stop 2000 3 1 0) busy).binding 0).state = .finishing := by decide +kernel

theorem test_immediate_stop :
    let s := after (.immediateStop 2000 3 1) busy
    (s.binding 0).state = .finishing ∧ (s.binding 0).effEnd = 0 ∧ (s.binding 0).counters.unseen = 8 := by decide +kernel

/-- A frame held at position 3 above an open base at 0 is released without a write (R14, R112). -/
theorem test_immediate_stop_held :
    let s := after (.immediateStop 2000 3 1)
      (withFrame0 (busyCoord (fun c => { c with role := .shadow, primary := some 3, held := [⟨0, 3, 4, 0⟩] }))
        (fun f => { f with state := .held, spanStart := 3, spanEnd := 4 }))
    (s.binding 0).coord.held = [] ∧ s.frames = [] ∧ s.freeCells = 16384 ∧ (s.binding 0).coord.map = [] ∧
      s.store.fill = [] := by decide +kernel

theorem test_abort :
    let s := after (.abort 2000 3 1) (inFlight id)
    (s.binding 0).state = .draining ∧ s.store.live = [] ∧ s.tag 3 = .busy (txOf (.removed .essence 0 0)) ∧
      s.frames.map (fun f => (f.state, f.users)) = [(.released, 2)] := by decide +kernel

/-- With nothing in flight the binding is drained as it enters DRAINING (R19). -/
theorem test_abort_drained :
    let s := after (.abort 2000 3 1) (writing id)
    (s.binding 0).state = .draining ∧ (s.binding 0).donePending = .yes := by decide +kernel

theorem test_drain_end :
    ((after (.drainEnd 2000 0) (busyWith (fun r => { r with state := .draining }))).binding 0).donePending = .yes ∧
      ((after (.drainEnd 2000 0) (flying (busyWith (fun r => { r with state := .draining })) (.ended 0))).binding 0).donePending =
        .no ∧
      ((after (.drainEnd 2000 0) (busyWith (fun r => { r with state := .draining, donePending := .suppressed }))).binding 0).state =
        .idle := by decide +kernel

theorem test_binding_quiet :
    ((after (.bindingQuiet 2000 0) (busyWith (fun r => { r with state := .finishing }))).binding 0).donePending = .yes := by
  decide +kernel

theorem test_done_queued :
    let s := after (.doneQueued 2000 0)
      (busyWith (fun r => { r with state := .finishing, reason := some .stopped, donePending := .yes }))
    s.lane.queue = [.done 1 (some .stopped) 100] ∧ (s.binding 0).state = .idle ∧ (s.binding 0).clip = some 1 ∧
      s.sources.map (fun e => e.bound) = [none] := by decide +kernel

theorem test_query_binding :
    (after (.queryBinding 2000 3 255 1) busy).lane.queue.map (fun n => n.body.length) = [64] ∧
      (after (.queryBinding 2000 3 255 2) busy).lane.queue = [] := by decide +kernel

theorem test_query_node :
    (after (.queryNode 2000 3 9) busy).lane.queue.map (fun n => n.body.length) = [44, 41] := by decide +kernel

/-- A binding with nothing in flight is IDLE at once, one with a transaction in flight drains (R19, R20, R193). -/
theorem test_restart :
    let s := after (.restart 2000 3 9) busy
    s.node = .restarting ∧ s.counters.restarts = 1 ∧ (s.binding 0).state = .idle ∧ s.sources.map (fun e => e.bound) = [none] ∧
      s.lane.queue = [.presence s.presence] ∧ s.presence.active = 0 ∧
      ((after (.restart 2000 3 9) (inFlight id)).binding 0).donePending = .suppressed ∧
      (after (.restart 2000 3 8) busy).node = .running := by decide +kernel

theorem test_restart_end :
    let s := after (.restartEnd 2000) { busy with node := .restarting }
    s.node = .running ∧ s.sources = [] ∧ (s.binding 0).state = .idle ∧ s.lane.queue.length = 1 := by decide +kernel

/-- Grade 7 reaches the own grade 5 plus the margin 2. -/
theorem test_take :
    let s := after (.take 2000 3 1 7 0 0) busy
    (s.binding 0).coord.primary = some 3 ∧ (s.binding 0).coord.role = .shadow ∧
      ((after (.take 2000 3 1 6 0 0) busy).binding 0).coord.primary = some 9 := by decide +kernel

theorem test_extent :
    ((after (.extent 2000 3 1 1 0 [⟨0, 4, 1⟩, ⟨6, 2, 2⟩]) busy).binding 0).coord.map = [⟨0, 4, .peerWritten⟩] ∧
      ((after (.extent 2000 3 1 1 0 [⟨0, 4, 1⟩]) busy).binding 0).coord.ownThrough = 4 := by decide +kernel

theorem test_done :
    let s := after (.done 2000 3 1 1 5)
      (busyCoord (fun c => { c with takers := [⟨3, 7, 1000⟩], role := .shadow, primary := some 3 }))
    (s.binding 0).coord.takers = [] ∧ (s.binding 0).coord.role = .primary ∧ (s.binding 0).effEnd = 100 := by decide +kernel

/-- The ABORT frame with its last bit changed, and cut short. -/
theorem test_notice_not_delivered :
    (after (.noticeNotDelivered 2000 [0x9B, 0x26, 3, 0x13, 4, 0, 0, 0x9C, 0xB5, 0xDE, 0xD7]) up).counters.crcErrors = 1 ∧
      (after (.noticeNotDelivered 2000 [0x9B, 0x26, 3, 0x13, 4, 0, 0, 0x9C, 0xB5, 0xDE]) up) = { up with now := 2000 } := by
  decide +kernel

/-- A notice that bears the node's own number. -/
theorem test_twin :
    let s := after (.abort 2000 9 77) busy
    s.node = .listening ∧ s.fltn = true ∧ (s.binding 0).state = .idle ∧ (s.binding 0).clip = some 1 ∧
      ((after (.abort 2000 9 77) (inFlight id)).binding 0).state = .draining := by decide +kernel

/-- 0001h steps to B400h, whose low two bits are 0 (R168). -/
theorem test_idle_gap :
    let l := (after (.idleGap 2000) { up with lane := { tx := .defer, attempts := 2, lfsr := 1, queue := [.decline 1 .clipBusy 0] } }).lane
    l.lfsr = 0xB400 ∧ l.tx = .sending := by decide +kernel

theorem test_holdoff_end :
    (after (.holdoffEnd 2000) { up with lane := { tx := .holdoff 3 } }).lane.tx = .sending := by decide +kernel

theorem test_holdoff_given_up :
    (after (.holdoffGivenUp 2000) { up with lane := { tx := .holdoff 3, attempts := 2 } }).lane =
      { tx := .defer, attempts := 2 } := by decide +kernel

theorem test_notice_sent :
    let s := after (.noticeSent 2000) { up with lane := { tx := .sending, attempts := 2, queue := [.decline 1 .clipBusy 0] } }
    s.lane.queue = [] ∧ s.lane.tx = .idle ∧ s.lane.attempts = 0 ∧ s.counters.sent = 1 := by decide +kernel

/-- The sixteenth collision abandons the notice. -/
theorem test_collision :
    let s := after (.collision 2000) { up with lane := { tx := .sending, attempts := 15, queue := [.decline 1 .clipBusy 0] } }
    s.lane.queue = [] ∧ s.counters.collisions = 1 ∧ s.counters.abandoned = 1 ∧
      (after (.collision 2000) { up with lane := { tx := .sending, queue := [.decline 1 .clipBusy 0] } }).lane.attempts = 1 := by
  decide +kernel

theorem test_presence_time :
    let s := after (.presenceTime 2000) { up with lane := { nextPresence := some 2000 } }
    s.lane.nextPresence = some 502000 ∧ s.lane.queue.map (fun n => n.body.length) = [18] := by decide +kernel

/-- A GREEN frame of the first browse slot is built; the same slot again is chosen already. -/
theorem test_browse_decision :
    let w := (writing id).updBinding 0 (fun r => { r with undecided := [0] })
    let s := after (.browseDecision 2000 0) w
    s.store.browse.length = 1 ∧ (s.binding 0).ring[0] = some 0 ∧
      (after (.browseDecision 2000 0) (w.updBinding 0 (fun r => { r with ring := r.ring.set 0 (some 0) }))).frames.map
        (fun f => f.users) = [1] := by decide +kernel

/-- LIVE wins at weights 6, 3, 1 where it alone is ready; its value falls back to 0. -/
theorem test_grant :
    let s := after (.grant 2000 3) (writing id)
    s.tag 3 = .busy { txOf (.job .essence 0 0 0) with data := paddedCell [1, 2, 3], deadline := 22000 } ∧
      s.store.currentLive = 0 ∧ s.store.live.map (fun j => j.todo) = [[]] := by decide +kernel

theorem test_pacing_hold_end :
    (after (.pacingHoldEnd 3000) { up with store := { link := .up, pacing := some ⟨1000, 2000000⟩ } }).store.pacing = none ∧
      (after (.pacingHoldEnd 2998) { up with store := { link := .up, pacing := some ⟨1000, 2000000⟩ } }).store.pacing ≠ none := by
  decide +kernel

theorem test_store_completion :
    (after (.storeCompletion 2000 3 .ok []) (inFlight id)).store.live.map (fun j => (j.phase, j.todo)) = [(.records, [0])] ∧
      (after (.storeCompletion 2000 4 .ok []) (inFlight id)).counters.stray = 1 := by decide +kernel

theorem test_store_completion_fault :
    let s := after (.storeCompletion 2000 3 .fault []) (inFlight id)
    s.counters.failed = 1 ∧ s.store.live = [] ∧ (s.binding 0).coord.map = [⟨0, 1, .ownGap⟩] ∧ (s.binding 0).coord.report = [⟨0, 1, .gap⟩] ∧
      (s.binding 0).counters.failedJobs = 1 ∧ s.store.failures = 1 := by decide +kernel

/-- A reissue carries its mark (R140), by which an ignored RETRY is a failed transaction (R141) and leaves the failure count
(R145); an ignored first RETRY is none. -/
theorem test_ignored_second_retry :
    let busyTag (r : Bool) : State := busy.setTag 3 (.busy { txOf (.ended 0) with retried := r })
    let s (r : Bool) : State := after (.storeCompletion 2000 3 .retry []) (busyTag r)
    let reissued := after (.grant 3000 4) (after (.storeCompletion 2000 3 .retry []) (inFlight id))
    (s true).counters.failed = 1 ∧ (s true).store.failures = 0 ∧ (s false).counters.failed = 0 ∧
      (s true).tag 3 = .free ∧
      (match reissued.tag 4 with
        | .busy tx => tx.retried
        | _ => false) = true := by decide +kernel

theorem test_store_timeout :
    let s := after (.storeTimeout 21000 3 []) (inFlight id)
    s.tag 3 = .retired 41000 ∧ s.counters.timeouts = 1 ∧ s.store.live = [] := by decide +kernel

theorem test_tag_retirement_end :
    (after (.tagRetirementEnd 41000 3) (up.setTag 3 (.retired 41000))).tag 3 = .free ∧
      (after (.tagRetirementEnd 40999 3) (up.setTag 3 (.retired 41000))).tag 3 = .retired 41000 := by decide +kernel

theorem test_srdyn_high :
    let s := after (.srdynHigh 2000 []) (writing id)
    s.store.link = .training ∧ s.store.live = [] ∧ (s.binding 0).acct.grade = 0 := by decide +kernel

theorem test_link_up :
    (after (.linkUp 2000 []) { up with store := { trainingSince := 1000 } }).store.link = .up ∧
      (after (.linkUp 1999 []) { up with store := { trainingSince := 1000 } }).store.link = .training := by decide +kernel

theorem test_probe_time :
    let s := after (.probeTime 2000 3) { busy with store := { link := .failed, nextProbe := some 2000 } }
    s.tag 3 = .busy { txOf (.probe true) with deadline := 22000 } ∧ s.store.nextProbe = some 102000 := by
  decide +kernel

/-! ## Each statement's hypotheses are met

A theorem below gives, for each clause of a statement, a state and operands that meet its hypotheses together, at a bound of
their range where there is one. A hypothesis that only names a term is met by that term and is left out. -/

/-- The node with the second port in a given state. -/
def portIs (q : Port) : State := up.updPort 1 (fun _ => q)

/-- The same outside RUNNING. -/
def restarting (s : State) : State := { s with node := .restarting }

theorem good_piece (p : PortNo) : bringsGood (.pieceFramed 2000 p piece0 []) 2000 p piece0 :=
  ⟨by decide, by decide, by unfold isBadPiece; decide +kernel, [], rfl⟩

theorem good_piece8 : bringsGood (.pieceFramed 2000 1 piece8 []) 2000 1 piece8 :=
  ⟨by decide, by decide, by unfold isBadPiece; decide +kernel, [], rfl⟩

theorem bad_piece : bringsBad (.pieceFramed 2000 1 pieceQ16 []) 2000 1 [] :=
  .inr ⟨pieceQ16, by decide, by decide, by unfold isBadPiece; decide +kernel, rfl⟩

theorem bad_length : bringsBad (.payloadLengthBad 2000 1 1025 []) 2000 1 [] :=
  .inl ⟨1025, by decide, rfl⟩

theorem free_not_busy {s : State} {g : Tag} (h : s.tag g = .free) : ∀ tx, s.tag g ≠ .busy tx := by
  intro tx; rw [h]; exact nofun

theorem free_flightless {s : State} (h : ∀ g : Tag, s.tag g = .free) : s.flightless :=
  fun g => free_not_busy (h g)

theorem free_flies {s : State} (h : ∀ g : Tag, s.tag g = .free) (b : BindingNo) : ¬ s.flies b := by
  rintro ⟨g, tx, hb, -⟩; exact free_not_busy (h g) tx hb

theorem witness_OptionLoadRuns :
    State.reset.node = .loading ∧ State.reset.lane.queue = [] ∧ State.reset.lane.tx = .idle ∧
      (crc16 (record9.toList.take 69)).toNat = field record9.toList 69 2 ∧ field record9.toList 0 1 % 32 ≠ 0 := by
  decide +kernel

theorem witness_PortsFollowTheirLines :
    ((portIs { line := .seeking, good := 15 }).port 1).line ≠ .locked ∧
      bringsBad (.payloadLengthBad 2000 1 1025 []) 2000 1 [] ∧ bringsBad (.pieceFramed 2000 1 pieceQ16 []) 2000 1 [] ∧
      bringsGood (.pieceFramed 2000 1 piece0 []) 2000 1 piece0 ∧
      ((portIs {}).port 1).line = .dark ∧
      (let q := (portIs { line := .seeking, good := 14 }).port 1; q.line = .seeking ∧ q.good < 15) ∧
      (let q := (portIs { line := .locked, bad := 6 }).port 1; q.line = .locked ∧ q.bad < 7) ∧
      (let s := restarting (portIs { line := .seeking, good := 15 }); (s.port 1).admits ∧ s.node ≠ .running) := by
  refine ⟨by decide +kernel, bad_length, bad_piece, good_piece 1, by decide +kernel, by decide +kernel, by decide +kernel, ?_⟩
  unfold Port.admits; decide +kernel

theorem witness_LockLost :
    ((portIs { line := .locked, bad := 7 }).port 1).line = .locked ∧
      (∃ order, Instr.signalLost 2000 1 [] = .signalLost 2000 1 order) ∧
      bringsBad (.payloadLengthBad 2000 1 1025 []) 2000 1 [] ∧ 7 ≤ ((portIs { line := .locked, bad := 7 }).port 1).bad :=
  ⟨by decide +kernel, ⟨[], rfl⟩, bad_length, by decide +kernel⟩

theorem witness_PieceLearned :
    bringsGood (.pieceFramed 2000 1 piece8 []) 2000 1 piece8 ∧
      ((portIs { line := .locked }).port 1).admits ∧ (portIs { line := .locked }).node = .running ∧
      (∀ n ∈ [63, 64], ∀ e ∈ List.replicate n entry7, ¬ (e.source = piece8.source ∧ e.stream = piece8.stream)) ∧
      (List.replicate 63 entry7).length < 64 ∧ 64 ≤ (List.replicate 64 entry7).length := by
  refine ⟨good_piece8, ?_, by decide +kernel, by decide +kernel, by decide, by decide⟩
  unfold Port.admits; decide +kernel

theorem witness_KnownSourcePiece :
    let s := busy.updPort 1 (fun q => { q with line := .seeking, good := 15 })
    bringsGood (.pieceFramed 2000 1 piece0 []) 2000 1 piece0 ∧ (s.port 1).admits ∧ s.node = .running ∧
      s.entry? piece0.source piece0.stream = some entry7 ∧
      { s with sources := [{ entry7 with bound := none }] }.entry? piece0.source piece0.stream =
        some { entry7 with bound := none } := by
  refine ⟨good_piece 1, ?_, by decide +kernel, by decide +kernel, by decide +kernel⟩
  unfold Port.admits; decide +kernel

/-- Heard at the end of millisecond 1: the tick of 1001 is the first that ages it. -/
theorem witness_SourceAgesOut :
    let s : State := { up with sources := [{ entry7 with bound := none, lastHeard := 1999 }] }
    (1001000 : Time).toNat % 1000 = 0 ∧ s.entry? 7 0 = some { entry7 with bound := none, lastHeard := 1999 } ∧
      (1000 : Time) = BitVec.ofNat 48 ((1999 : Time).toNat / 1000 * 1000) ∧
      (s.node ≠ .listening ∧ s.opts.ageTimeout * 1000000 ≤ ((1001000 : Time) - 1000).toNat) ∧
      ¬ s.opts.ageTimeout * 1000000 ≤ ((1000000 : Time) - 1000).toNat := by decide +kernel

/-- Frame counts at the bounds of the clauses: 2^31 − 1 and 2^31 above the anchor, at it, and seven above it. -/
theorem witness_PieceIsRouted :
    (State.reset.binding 0).state = .idle ∧ (busy.binding 0).state.active = true ∧ (busy.binding 0).acct.silent = false ∧
      (let r := (busyWith (fun r => { r with state := .armed })).binding 0
       r.state = .armed ∧ 2 ^ 31 ≤ r.deltaOf (100 + 0x80000000) ∧ r.deltaOf (100 + 0x7FFFFFFF) < 2 ^ 31) ∧
      (let r := (busy.updAsm 0 (fun a => { a with base := some 101 })).binding 0
       r.state = .recording ∧ r.asm.base = some 101 ∧ 2 ^ 31 ≤ r.deltaOf (100 + 0x80000000) ∧
         r.deltaOf 100 < 2 ^ 31 ∧ r.deltaOf 100 < r.deltaOf 101 ∧ r.deltaOf 108 = r.deltaOf 101 + 7) ∧
      (let r := (busyWith (fun r => { r with state := .finishing, asm := { r.asm with base := some 101 } })).binding 0
       r.state = .finishing ∧ r.asm.base = some 101 ∧ r.asm.slots.length = 8 ∧ r.deltaOf 101 = r.deltaOf 101 + 0 ∧
         r.deltaOf 100 < r.deltaOf 101 ∧ r.deltaOf 101 + 8 ≤ r.deltaOf 109) ∧
      (let r := (busyWith (fun r => { r with state := .finishing, asm := { r.asm with base := none } })).binding 0
       r.state = .finishing ∧ r.asm.base = none) := by decide +kernel

theorem witness_WindowIsForced :
    let r := busy.binding 0
    r.state = .recording ∧ r.asm.base = some 100 ∧ r.asm.slots.length = 8 ∧ r.deltaOf 108 < 2 ^ 31 ∧
      r.deltaOf 100 + 8 ≤ r.deltaOf 108 ∧ r.countersBounded ∧ busy.poolWhole := by
  unfold Binding.countersBounded State.poolWhole State.heldCells; decide +kernel

theorem no_extent_covers (a b : Nat) (h : a < b) : ¬ stored [] a b := fun hs => by
  simpa [kindAt] using hs a (Nat.le_refl a) h

theorem one_extent_covers (k : ExtentKind) (hk : k = .ownWritten ∨ k = .peerWritten) : stored [⟨0, 1, k⟩] 0 1 := by
  intro p _ h
  obtain rfl : p = 0 := by omega
  rcases hk with rfl | rfl <;> decide

theorem filling_whole : filling.poolWhole := by unfold State.poolWhole State.heldCells; decide +kernel

/-- Every binding at work, and 1024 cells held for the first one. -/
def crowded : State :=
  { withFrame0 busy (fun f => { f with pieces := 1025, cells := (List.range 1024).map (fun i => (i, [])) }) with
    freeCells := 15360, bindings := Vector.replicate 16 rec1 }

/-- Rates that drop the frame counted 101. -/
def dropping : State := busyWith (fun r => { r with terms := { r.terms with fn := 2 } })

/-- A binding that has written position 0. -/
def covered : State := busyCoord (fun c => { c with map := [⟨0, 1, .ownWritten⟩] })

theorem witness_FrameOpens_skips :
    (dropping.poolWhole ∧ mapOrdered (dropping.binding 0).coord.map ∧
      dropping.skipsAs 0 { piece0 with count := 101 } .drop) ∧
    (covered.poolWhole ∧ mapOrdered (covered.binding 0).coord.map ∧ covered.skipsAs 0 piece0 .covered) ∧
    (busy.poolWhole ∧ mapOrdered (busy.binding 0).coord.map ∧
      busy.skipsAs 0 { piece0 with pieces := 5 } .oversize) ∧
    (crowded.poolWhole ∧ mapOrdered (crowded.binding 0).coord.map ∧ crowded.skipsAs 0 piece0 .room) ∧
    (∀ s ∈ [dropping, covered, busy, crowded], (s.binding 0).state = .recording ∧
      ∀ i < 8, (s.binding 0).asm.slots[i]? = some (.free none)) := by
  have hw : ∀ s ∈ [dropping, covered, busy, crowded], s.poolWhole := by
    unfold State.poolWhole State.heldCells; decide +kernel
  refine ⟨⟨hw _ (by simp), trivial, ?_⟩, ⟨hw _ (by simp), ?_, ?_⟩, ⟨hw _ (by simp), trivial, ?_⟩,
    ⟨hw _ (by simp), trivial, ?_⟩, by decide +kernel⟩
  · unfold State.skipsAs; decide +kernel
  · show (0 : Nat) < 1; decide
  · exact ⟨by decide +kernel, by decide +kernel, one_extent_covers _ (.inl rfl)⟩
  · exact ⟨by decide +kernel, by decide +kernel, no_extent_covers 0 1 (by decide), by decide +kernel⟩
  · exact ⟨by decide +kernel, by decide +kernel, no_extent_covers 0 1 (by decide), by decide +kernel, .inl (by decide +kernel)⟩

theorem witness_FrameOpens_gathers :
    busy.poolWhole ∧ (busy.binding 0).state = .recording ∧ mapOrdered (busy.binding 0).coord.map ∧
      (busy.binding 0).asm.slots[7]? = some (.free none) ∧ busy.gathers 0 { piece0 with count := 199 } := by
  refine ⟨by unfold State.poolWhole State.heldCells; decide +kernel, by decide +kernel, trivial, by decide +kernel,
    ⟨by decide +kernel, by decide +kernel, no_extent_covers 99 100 (by decide), by decide +kernel⟩⟩

theorem witness_FrameOpens_end :
    let r := busy.binding 0
    r.state = .recording ∧ r.asm.base ≠ none ∧ r.asm.slots[7]? = some (.free none) ∧
      startOf r.terms (r.deltaOf 200) < startOf r.terms (r.deltaOf 200 + 1) ∧
      r.effEnd ≤ startOf r.terms (r.deltaOf 200) ∧ r.asm.base = some 100 ∧ r.countersBounded := by
  unfold Binding.countersBounded; decide +kernel

theorem witness_PieceOfOpenFrame :
    let f := { frame0 with pieces := 3 }
    let s := withFrame0 filling (fun _ => f)
    (s.binding 0).state.active = true ∧ s.frame? 0 = some f ∧ f.pieces ≠ piece1.pieces.toNat ∧
      filling.frame? 0 = some frame0 ∧ frame0.pieces = piece1.pieces.toNat ∧ frame0.base = piece1.base.toNat ∧
      frame0.audio = piece1.audio.toNat ∧ piece0.index.toNat ∈ frame0.cells.map Prod.fst ∧
      piece1.index.toNat ∉ frame0.cells.map Prod.fst ∧ { filling with freeCells := 0 }.freeCells = 0 ∧
      f.pieces = ({ piece1 with pieces := 3 } : Piece).pieces.toNat ∧ s.freeCells ≠ 0 ∧ f.cells.length + 1 ≠ f.pieces ∧
      frame0.cells.length + 1 = frame0.pieces ∧ frame0.cells.Pairwise (fun x y => x.1 < y.1) := by decide +kernel

theorem witness_FrameCompletes :
    (filling.binding 0).state = .recording ∧ filling.frame? 0 = some frame0 ∧
      (filling.binding 0).asm.slots.length = 8 ∧ (0 : Nat) ≤ 4 ∧ 4 ≤ 4 := by decide +kernel

/-- A deadline in the last microsecond that has come, in the last slot and in each kind of slot that is not CLOSED. -/
theorem witness_SlotDeadlineCloses :
    ∀ x ∈ [Slot.free (some 9000), .filling 0 9000, .skipped .room 9000],
      let r := (busy.updAsm 0 (fun a => { a with slots := a.slots.set 7 x })).binding 0
      r.state = .recording ∧ r.asm.base = some 100 ∧ r.asm.slots.length = 8 ∧ 7 = ((107 : FrameCount) - 100).toNat ∧
        r.asm.slots[7]? = some x ∧ ((9000 : Time) - 9000).toNat < 2 ^ 47 ∧ r.countersBounded ∧ filling.poolWhole := by
  unfold Binding.countersBounded State.poolWhole State.heldCells; decide +kernel

/-- A range that reaches beyond E with one position below it or none, and a report buffer with its newest run at [4, 6),
which a run may follow on, run up to or stand apart from, and a full one. -/
theorem witness_GapRuns_entered :
    let r := busy.binding 0
    let pre : List Run := [⟨0, 1, .gap⟩]
    let l : Run := ⟨4, 6, .gap⟩
    mapOrdered r.coord.map ∧ r.coord.ownThrough ≤ r.effEnd ∧ min 200 r.effEnd ≤ 100 ∧ 99 < min 200 r.effEnd ∧
      busy.counters.reportsLost ≤ 65535 ∧
      ((busyCoord (fun c => { c with report := pre ++ [l] })).binding 0).coord.report = pre ++ [l] ∧
      (6 = l.stop ∧ (4 : Nat) = l.start ∧ ¬ (l.kind = .gap ∧ (7 = l.stop ∨ 8 = l.start))) ∧ (pre ++ [l]).length < 12 ∧
      12 ≤ (List.replicate 12 l).length :=
  ⟨trivial, by decide +kernel⟩

theorem witness_GapRuns :
    (3 ≠ 4) ∧ (100 ≤ (busy.binding 0).effEnd ∧ 100 ≤ 100 ∧ 99 < 100) ∧
      (busy.binding 0).coord.role = .primary ∧ ((busyCoord (fun c => { c with role := .shadow })).binding 0).coord.role ≠ .primary := by
  decide +kernel

/-- A frame of 3 bytes against buckets that hold 3 and 2. -/
theorem witness_FrameIsColoured :
    let s (rate c x : Nat) :=
      (busyWith (fun r => { r with terms := { r.terms with rate := rate }, acct := { r.acct with committed := c, excess := x } })).binding 0
    (s 0 0 0).state.active = true ∧ (s 0 0 0).terms.rate = 0 ∧
      ((s 1 3 2).terms.rate ≠ 0 ∧ frame0.byteTotal ≤ (s 1 3 2).acct.committed) ∧
      ((s 1 2 3).acct.committed < frame0.byteTotal ∧ frame0.byteTotal ≤ (s 1 2 3).acct.excess) ∧
      ((s 1 2 2).acct.committed < frame0.byteTotal ∧ (s 1 2 2).acct.excess < frame0.byteTotal) := by decide +kernel

theorem witness_MeterCredit : (2000 : Time).toNat % 1000 = 0 ∧ busy.metersBounded := by
  unfold State.metersBounded Binding.meterBounded; decide +kernel

/-- The grade 5 of quality code 11 that stands, a grade that moves, and a binding with no completed frame yet. -/
theorem witness_GradeRecomputed :
    let first := (busyWith (fun r => { r with acct := { r.acct with lastQuality := none } })).binding 0
    let r := busy.binding 0
    r.state.active = true ∧ r.acct.lastQuality = some 11 ∧ r.clip = some 1 ∧
      r.gradeFor busy.opts busy.store.link (11 : BitVec 8).toNat = r.acct.grade ∧
      r.gradeFor busy.opts .failed (11 : BitVec 8).toNat ≠ r.acct.grade ∧
      first.acct.lastQuality = none ∧ (∀ e ∈ busy.sources, e.bound = some 0 → (11 : BitVec 8).toNat = e.quality.toNat) ∧
      (∃ e ∈ busy.sources, e.bound = some 0) := by decide +kernel

theorem witness_BindingFallsSilent :
    let r := busy.binding 0
    let fresh := (busy.updAsm 0 (fun a => { a with lastArrival := none })).binding 0
    (1000000 : Time).toNat % 1000 = 0 ∧ r.asm.lastArrival = some 900 ∧ fresh.asm.lastArrival = none ∧ fresh.asm.takenAt = 0 ∧
      (0 : Time) = BitVec.ofNat 48 ((900 : Time).toNat / 1000 * 1000) ∧
      (r.state.active = true ∧ r.acct.silent = false ∧ 1000000 ≤ ((1000000 : Time) - 0).toNat) ∧
      ¬ 1000000 ≤ ((999000 : Time) - 0).toNat := by decide +kernel

theorem hears3 (s : State) (h : s.node = .running ∧ s.opts.station = 9) : s.hearsFrom 3 :=
  ⟨h.1, by rw [h.2]; decide⟩

theorem witness_TakersFollowNotices :
    let s := busyCoord (fun c => { c with takers := [⟨3, 7, 1000⟩] })
    s.hearsFrom 3 ∧ s.hearsFrom 0 ∧ s.activeFor 1 = some 0 ∧ (3 : Station) ≠ 0 ∧ s.activeFor 2 = none ∧
      (1501000 : Time).toNat % 1000 = 0 ∧ (s.binding 0).state.active = true ∧
      (∃ x ∈ (s.binding 0).coord.takers, x.station = 3 ∧ s.opts.takerTimeout * 1000 ≤ ((1501000 : Time) - x.lastHeard).toNat) ∧
      (1500000 : Time).toNat % 1000 = 0 ∧
      (∀ x ∈ (s.binding 0).coord.takers, x.station = 3 →
        ((1500000 : Time) - x.lastHeard).toNat < s.opts.takerTimeout * 1000) := by
  unfold State.hearsFrom; decide +kernel

/-- The node's own grade 5 against a grade of 6 or 7 at the margin 2, and every place that the primary-in-view may have. -/
theorem witness_ViewIsEvaluated :
    let own : Taker := ⟨9, 5, 0⟩
    let b7 : Taker := ⟨3, 7, 1000⟩
    let b6 : Taker := ⟨4, 6, 1000⟩
    let with' (role : Role) (p : Option Station) (l : List Taker) :=
      (busyCoord (fun c => { c with role := role, primary := p, takers := l })).binding 0
    own.station = busy.opts.station ∧ own.grade = (busy.binding 0).acct.grade ∧
      (∀ best ∈ [b7, b6], best ∈ own :: [best] ∧
        ∀ x ∈ own :: [best], x.station = best.station ∧ x.grade = best.grade ∨ best.ahead x) ∧
      (State.reset.binding 0).state.active = false ∧
      (with' .settling none [b7]).coord.role = .settling ∧
      (with' .shadow (some 3) [b7]).coord.primary = some b7.station ∧
      (with' .shadow none [b7]).coord.primary = none ∧
      (let r := with' .shadow (some 8) [b7]
       r.coord.role ≠ .settling ∧ r.coord.primary = some 8 ∧ (8 : Station) ≠ b7.station ∧ (8 : Station) ≠ own.station ∧
         ∀ x ∈ r.coord.takers, x.station ≠ 8) ∧
      (with' .primary (some 9) [b7]).coord.primary = some own.station ∧ own.grade + busy.opts.margin ≤ b7.grade ∧
      ¬ own.grade + busy.opts.margin ≤ b6.grade ∧
      (let r := with' .shadow (some 4) [b6, b7]
       (4 : Station) ≠ b7.station ∧ (∃ x ∈ r.coord.takers, x.station = 4) ∧
         ∀ x ∈ r.coord.takers, x.station = 4 → x.grade = 6) := by
  unfold Taker.ahead; decide +kernel

/-- A binding at SHADOW that holds one frame, with 255 jobs in LIVE and in FILL. -/
def holdingOne : State :=
  let s := withFrame0 (busyCoord (fun c => { c with role := .shadow, primary := some 3, held := [⟨0, 0, 1, 0⟩] }))
    (fun f => { f with state := .held })
  { s with store := { s.store with live := List.replicate 255 job0, fill := List.replicate 255 job0 } }

theorem witness_ViewChanges :
    let r := holdingOne.binding 0
    r.state.active = true ∧ r.clip = some 1 ∧ (3 : Station) ≠ holdingOne.opts.station ∧
      (9 : Station) = holdingOne.opts.station ∧
      r.coord.held.map (fun h => holdingOne.frame? h.frame) = [{ frame0 with state := .held }].map some ∧
      (r.coord.held.map Held.frame).Nodup ∧ holdingOne.store.link = .up ∧
      holdingOne.store.live.length + 1 ≤ 256 ∧ r.countersBounded := by
  unfold Binding.countersBounded; decide +kernel

theorem witness_SettleDeadline :
    let r := (busyCoord (fun c => { c with role := .settling, settle := some 2000, takers := [⟨3, 5, 1000⟩] })).binding 0
    let own : Taker := ⟨9, 5, 0⟩
    let best : Taker := ⟨3, 5, 1000⟩
    own.station = busy.opts.station ∧ own.grade = r.acct.grade ∧ best ∈ own :: r.coord.takers ∧
      (∀ x ∈ own :: r.coord.takers, x.station = best.station ∧ x.grade = best.grade ∨ best.ahead x) ∧
      r.coord.settle = some 2000 ∧
      (r.state.active = true ∧ r.coord.role = .settling ∧ ((2000 : Time) - 2000).toNat < 2 ^ 47) ∧
      ¬ ((1999 : Time) - 2000).toNat < 2 ^ 47 := by
  unfold Taker.ahead; decide +kernel

theorem witness_TimedNotices :
    let r := (busyCoord (fun c => { c with nextTake := 2000, report := [⟨0, 3, .gap⟩] })).binding 0
    let s : State := { up with lane := { nextPresence := some 2000 } }
    r.state.active = true ∧ r.clip = some 1 ∧ ((2000 : Time) - r.coord.nextTake).toNat < 2 ^ 47 ∧
      2 ^ 47 ≤ ((1999 : Time) - r.coord.nextTake).toNat ∧ (State.reset.binding 0).state.active = false ∧
      s.node = .running ∧ (restarting s).node = .restarting ∧ s.lane.nextPresence = some 2000 ∧
      ((2000 : Time) - 2000).toNat < 2 ^ 47 ∧ 2 ^ 47 ≤ ((1999 : Time) - 2000).toNat ∧ up.lane.nextPresence = none ∧
      (busy.house.counter - r.coord.nextExtent).toNat < 2 ^ 31 ∧ r.state ≠ .armed ∧ r.coord.report ≠ [] ∧
      (busy.binding 0).coord.lastThrough ≠ some (busy.binding 0).coord.ownThrough ∧
      (let q := (busyCoord (fun c => { c with lastThrough := some 0, nextExtent := 1 })).binding 0
       q.coord.report = [] ∧ q.coord.lastThrough = some q.coord.ownThrough ∧
         2 ^ 31 ≤ (busy.house.counter - q.coord.nextExtent).toNat) ∧
      ((busyWith (fun q => { q with state := .armed })).binding 0).state = .armed := by decide +kernel

/-- A binding among 16 whose share of the pool is 1024 cells, at the early-release level of 768. -/
def pressed (cells : Nat) : State :=
  { withFrame0 holdingOne (fun f => { f with state := .held, cells := (List.range cells).map (fun i => (i, [])) }) with
    bindings := Vector.replicate 16 (holdingOne.binding 0) }

theorem witness_HeldFramesAreFilled :
    let r := holdingOne.binding 0
    let q := (busyCoord (fun c => { c with role := .shadow, held := [⟨5, 0, 1, 1⟩, ⟨0, 1, 2, 0⟩] })).binding 0
    r.state.active = true ∧
      (q.coord.held = [⟨5, 0, 1, 1⟩] ++ ⟨0, 1, 2, 0⟩ :: [] ∧
        ∀ x ∈ ([⟨5, 0, 1, 1⟩] : List Held), 2 ^ 31 ≤ (busy.house.counter - x.deadline).toNat) ∧
      (busy.house.counter - (0 : HouseCount)).toNat < 2 ^ 31 ∧ (∃ f, holdingOne.frame? 0 = some f) ∧
      holdingOne.store.link = .up ∧ holdingOne.store.fill.length < 256 ∧ r.coord.held = ⟨0, 0, 1, 0⟩ :: [] ∧
      r.coord.role ≠ .primary ∧ (busy.binding 0).coord.role = .primary ∧ (busy.binding 0).coord.held = [] ∧
      3 * (Config.poolCells / (pressed 768).busyBindings.length) / 4 ≤ (pressed 768).holding 0 ∧
      (pressed 767).holding 0 < 3 * (Config.poolCells / (pressed 767).busyBindings.length) / 4 := by
  refine ⟨by decide +kernel, by decide +kernel, by decide +kernel,
    ⟨{ frame0 with state := .held }, by decide +kernel⟩, ?_⟩
  decide +kernel

theorem empty_bounded {c : Coordination} (h : c.map = [] ∧ c.report.length ≤ 12 ∧ c.takers.length ≤ 8) : c.bounded := by
  refine ⟨by rw [h.1]; trivial, by rw [h.1]; decide, h.2.1, h.2.2⟩

/-- A frame held at position 0 in a map that stores it yields to a run that meets it, and not to one behind it. -/
theorem held_yields (s : State) (b : BindingNo) (k : ExtentKind) (hk : k = .ownWritten ∨ k = .peerWritten)
    (h : (s.binding b).coord.held = [⟨0, 0, 1, 0⟩] ∧ (s.binding b).coord.map = [⟨0, 1, k⟩] ∧ (s.binding b).effEnd = 100) :
    s.yieldsTo b [(0, 1)] (fun _ => true) ∧ s.yieldsTo b [(1, 2)] (fun _ => false) := by
  unfold State.yieldsTo
  rw [h.1, h.2.1, h.2.2]
  refine ⟨?_, ?_⟩ <;> intro x hx <;> obtain rfl := List.mem_singleton.1 hx
  · exact iff_of_true rfl ⟨⟨(0, 1), by simp, by decide⟩, one_extent_covers k hk⟩
  · refine iff_of_false (by decide) (fun hm => ?_)
    obtain ⟨y, hy, hm⟩ := hm.1
    obtain rfl := List.mem_singleton.1 hy
    exact absurd hm (by decide)

/-- A run that stores the frame held at position 0, and one behind it; the notice comes from the primary-in-view with its
through value just above the held frame, and from another station. -/
theorem witness_PeerExtentIsEntered :
    busy.hearsFrom 3 ∧ busy.activeFor 2 = none ∧ holdingOne.activeFor 1 = some 0 ∧ (holdingOne.binding 0).coord.bounded ∧
      (holdingOne.binding 0).coord.primary = some 3 ∧ (busy.binding 0).coord.primary ≠ some 3 ∧
      ((holdingOne.atTime 2000).insertExtent 0 .peerWritten 0 1).yieldsTo 0 [(0, 1)] (fun _ => true) ∧
      ((holdingOne.atTime 2000).insertExtent 0 .peerWritten 0 1).yieldsTo 0 [(1, 2)] (fun _ => false) ∧
      (holdingOne.binding 0).coord.held = [⟨0, 0, 1, 0⟩] ∧ 0 < (1 : BitVec 24).toNat := by
  have hy := held_yields ((holdingOne.atTime 2000).insertExtent 0 .peerWritten 0 1) 0 .peerWritten (.inr rfl) (by decide +kernel)
  exact ⟨hears3 _ (by decide +kernel), by decide +kernel, by decide +kernel, empty_bounded (by decide +kernel),
    by decide +kernel, by decide +kernel, hy.1, hy.2, by decide +kernel⟩

/-- A frame at position 0 that is stored already, and one that is not: at PRIMARY, and at SHADOW below the level. -/
theorem witness_FateOfFrame :
    (let s := withFrame0 covered id
     (s.binding 0).state.active = true ∧ mapOrdered (s.binding 0).coord.map ∧ s.frame? 0 = some frame0 ∧ frame0.users = 0 ∧
       stored (s.binding 0).coord.map frame0.spanStart (min frame0.spanEnd (s.binding 0).effEnd)) ∧
    (let s := withFrame0 busy id
     mapOrdered (s.binding 0).coord.map ∧ s.frame? 0 = some frame0 ∧
       ¬ stored (s.binding 0).coord.map frame0.spanStart (min frame0.spanEnd (s.binding 0).effEnd) ∧
       frame0.colour ≠ some .red ∧ (s.binding 0).coord.role = .primary ∧ s.store.link = .up ∧
       (List.replicate 255 job0).length < 256 ∧ { frame0 with colour := some .red }.colour = some .red) ∧
    (let s := withFrame0 (busyCoord (fun c => { c with role := .shadow, primaryThrough := some 0 })) id
     (s.binding 0).coord.role ≠ .primary ∧ kindAt (s.binding 0).coord.map frame0.spanStart ≠ some .primaryGap ∧
       (s.binding 0).coord.primaryThrough = some 0 ∧ 0 ≤ frame0.spanStart ∧
       s.holding 0 < 3 * (Config.poolCells / s.busyBindings.length) / 4 ∧
       (s.binding 0).coord.held.Pairwise (fun x y => x.position < y.position)) ∧
    (let s := withFrame0 (busyCoord (fun c =>
       { c with role := .shadow, primaryThrough := some 1, map := [⟨0, 1, .primaryGap⟩] })) id
     kindAt (s.binding 0).coord.map frame0.spanStart = some .primaryGap ∧
       ∃ th, (s.binding 0).coord.primaryThrough = some th ∧ frame0.spanStart < th) := by
  refine ⟨⟨by decide +kernel, ?_, by decide +kernel, by decide, one_extent_covers _ (.inl rfl)⟩,
    ⟨trivial, by decide +kernel, no_extent_covers 0 1 (by decide), by decide +kernel⟩, by decide +kernel,
    by decide +kernel, 1, by decide +kernel⟩
  show (0 : Nat) < 1
  decide

theorem witness_HouseTimeRuns :
    let h : House := { state := .referenced, period := 40000, counter := 7, lastFrame := 1000, byPulse := true }
    up.loaded = true ∧ up.node ≠ .loading ∧ (h.state = .referenced ∧ 2 * h.period ≤ ((81000 : Time) - h.lastFrame).toNat) ∧
      (let f := { h with state := .freeRun }; f.state = .freeRun ∧ f.period ≤ ((41000 : Time) - f.lastFrame).toNat) ∧
      ((80999 : Time) - h.lastFrame).toNat < 2 * h.period ∧ ((40999 : Time) - h.lastFrame).toNat < h.period := by
  decide +kernel

theorem witness_OccupancyFollows :
    (2000 : Time).toNat % 1000 = 0 ∧ up.freeCells = 16384 ∧ up.freeCells ≤ 16384 := by decide +kernel

/-- The request with no browse rendition. -/
def req2 : Request := { req1 with browseCells := 1 }

theorem req2_passes (k : Nat) : ¬ checkFails req2.clip (clampRequest req2) k := by
  have hb : (clampRequest req2).browseBase = none := by decide +kernel
  intro h
  match k, h with
  | 0, h => exact h
  | 1, h => exact absurd h (show ¬ (req2.clip = 0) by decide +kernel)
  | 2, h => exact absurd h (show ¬ ((clampRequest req2).hn = 0) by decide +kernel)
  | 3, h => exact absurd h (show ¬ ((clampRequest req2).hd = 0) by decide +kernel)
  | 4, h => exact absurd h (show ¬ ((clampRequest req2).fn = 0) by decide +kernel)
  | 5, h => exact absurd h (show ¬ ((clampRequest req2).fd = 0) by decide +kernel)
  | 6, h => exact absurd h (show ¬ ((clampRequest req2).clipLength = 0) by decide +kernel)
  | 7, h => exact absurd h (show ¬ ((clampRequest req2).slotCells = 0 ∨ 1024 < (clampRequest req2).slotCells) by decide +kernel)
  | 8, h => exact absurd h (show ¬ 4 < (clampRequest req2).audio by decide +kernel)
  | 9, h => exact absurd h (show ¬ ((clampRequest req2).essenceBase % 1024 ≠ 0) by decide +kernel)
  | 10, h => exact absurd h (show ¬ ((clampRequest req2).indexBase % 1024 ≠ 0) by decide +kernel)
  | 11, ⟨_, hn, _⟩ => exact absurd (hb.symm.trans hn) nofun
  | 12, h => exact absurd h (show ¬ 2 ^ 48 < (clampRequest req2).essenceBase + (clampRequest req2).clipLength * ((clampRequest req2).slotCells * 1024) by decide +kernel)
  | 13, h => exact absurd h (show ¬ 2 ^ 48 < (clampRequest req2).indexBase + (clampRequest req2).clipLength * 32 by decide +kernel)
  | 14, ⟨_, hn, _⟩ => exact absurd (hb.symm.trans hn) nofun
  | 15, ⟨_, h⟩ => exact absurd h (show ¬ (clampRequest req2).indexBase < (clampRequest req2).essenceBase + (clampRequest req2).clipLength * ((clampRequest req2).slotCells * 1024) by decide +kernel)
  | 16, ⟨_, hn, _⟩ => exact absurd (hb.symm.trans hn) nofun
  | 17, ⟨_, hn, _⟩ => exact absurd (hb.symm.trans hn) nofun
  | _ + 18, h => exact h

/-- The node with the entry of the request's source, not bound yet. -/
def offered : State := { up with sources := [{ entry7 with bound := none }] }

theorem not_repeats {s : State} {req : Request} (h : ∀ b : BindingNo, (s.binding b).request ≠ some req) (b : BindingNo) :
    ¬ s.repeats req b := fun hr => h b hr.2.2

theorem offered_considers (s : State) (e : SourceEntry) (h : ∀ b : BindingNo, (s.binding b).request ≠ some req2)
    (he : s.entry? 7 0 = some e) (hp : e.ports ≠ 0) : s.considers req2 e :=
  ⟨not_repeats h, he, hp, req2_passes⟩

theorem witness_RecordIsAnswered_early :
    (3 : Station) ≠ up.opts.station ∧ (restarting up).node = .restarting ∧ busy.node = .running ∧
      (busy.repeats req1 0 ∧ ∀ b' < (0 : BindingNo), ¬ busy.repeats req1 b') ∧
      ((∀ b, ¬ offered.repeats req1 b) ∧
        (∀ e, { offered with sources := [{ entry7 with ports := 0 }] }.entry? 7 0 = some e → e.ports = 0) ∧
        offered.entry? 7 0 = some { entry7 with bound := none } ∧ entry7.ports ≠ 0) ∧
      (checkFails 0 (clampRequest { req2 with clip := 0 }) 1 ∧
        ∀ j < 1, ¬ checkFails 0 (clampRequest { req2 with clip := 0 }) j) := by
  refine ⟨by decide +kernel, by decide +kernel, by decide +kernel, ⟨⟨by decide +kernel, by decide +kernel, by decide +kernel⟩,
    fun b hb => absurd hb (by simp)⟩, ⟨not_repeats (by decide +kernel), ?_, by decide +kernel, by decide +kernel⟩,
    ⟨show (0 : Clip) = 0 by decide, ?_⟩⟩
  · intro e he
    have : { offered with sources := [{ entry7 with ports := 0 }] }.entry? 7 0 = some { entry7 with ports := 0 } := by decide +kernel
    rw [this] at he
    cases he
    rfl
  · intro j hj
    obtain rfl : j = 0 := by omega
    exact id

theorem witness_RecordIsAnswered_busy :
    let clip9 : State := { offered with bindings := up.bindings.set 5 { rec1 with request := some req1 } }
    let full : State := { offered with bindings := Vector.replicate 16 { rec1 with clip := some 2 } }
    let down : State := { offered with store := { link := .training } }
    (clip9.considers req2 { entry7 with bound := none } ∧ clip9.clipBusy req2.clip) ∧
    ({ offered with sources := [entry7] }.considers req2 entry7 ∧ entry7.bound ≠ none) ∧
    (full.considers req2 { entry7 with bound := none } ∧ ¬ full.clipBusy req2.clip ∧
      ∀ b : BindingNo, (full.binding b).state ≠ .idle) ∧
    (down.considers req2 { entry7 with bound := none } ∧ ¬ down.clipBusy req2.clip ∧
      (∃ b : BindingNo, (down.binding b).state = .idle) ∧ down.store.link ≠ .up) := by
  have hc : ∀ (s : State) (e : SourceEntry), (∀ b : BindingNo, (s.binding b).request ≠ some req2) → s.entry? 7 0 = some e → e.ports ≠ 0 →
    s.considers req2 e := offered_considers
  refine ⟨⟨hc _ _ (by decide +kernel) (by decide +kernel) (by decide +kernel), ?_⟩,
    ⟨hc _ _ (by decide +kernel) (by decide +kernel) (by decide +kernel), by decide +kernel⟩,
    ⟨hc _ _ (by decide +kernel) (by decide +kernel) (by decide +kernel), ?_, by decide +kernel⟩,
    ⟨hc _ _ (by decide +kernel) (by decide +kernel) (by decide +kernel), ?_, by decide +kernel, by decide +kernel⟩⟩ <;>
  · unfold State.clipBusy; decide +kernel

theorem offered_lawful : offered.tableLawful := by
  refine ⟨by decide +kernel, List.pairwise_singleton _ _, ?_, ?_, ?_⟩ <;> decide +kernel

theorem busy_lawful : busy.tableLawful := by
  refine ⟨by decide +kernel, List.pairwise_singleton _ _, ?_, ?_, ?_⟩ <;> decide +kernel

/-- Binding 0 takes it although binding 3 kept the clip. -/
theorem witness_RecordIsTaken :
    let s := offered.updBinding 3 (fun r => { r with clip := some 1 })
    s.hearsFrom 3 ∧ s.tableLawful ∧ s.considers req2 { entry7 with bound := none } ∧ ¬ s.clipBusy req2.clip ∧
      s.store.link = .up ∧ (s.binding 0).state = .idle ∧ (∀ b' < (0 : BindingNo), (s.binding b').state ≠ .idle) ∧
      s.opts.grades.getD (11 : BitVec 8).toNat 0 = 5 ∧
      (∀ b' : BindingNo, b' ≠ 0 → (s.binding b').coord.role = .primary ∨ (s.binding b').coord.held = []) := by
  refine ⟨hears3 _ (by decide +kernel), ⟨by decide +kernel, List.pairwise_singleton _ _, by decide +kernel, by decide +kernel,
    by decide +kernel⟩, offered_considers _ _ (by decide +kernel) (by decide +kernel) (by decide +kernel), ?_, by decide +kernel⟩
  unfold State.clipBusy; decide +kernel

theorem witness_ClipNamesOneBinding : busy.tableLawful ∧ busy.activeFor 1 = some 0 ∧ busy.holderOf 1 = some 0 :=
  ⟨busy_lawful, by decide +kernel⟩

/-- A STOP at the stop position, and one above it; in each state of the binding, with its end just in and just above the
window. -/
theorem witness_StopAtPosition :
    let s := busyWith (fun r => { r with stopPos := 50, effEnd := 50 })
    let r := filling.binding 0
    s.hearsFrom 3 ∧ (50 : BitVec 24).toNat ≠ 16777215 ∧ s.activeFor 2 = none ∧ s.activeFor 1 = some 0 ∧
      (s.binding 0).stopPos < (51 : BitVec 24).toNat ∧ (50 : BitVec 24).toNat ≤ (s.binding 0).stopPos ∧
      ((busyWith (fun r => { r with state := .armed, asm := {} })).binding 0).state = .armed ∧
      ((busyWith (fun r => { r with state := .finishing })).binding 0).state = .finishing ∧
      (let q := (busyWith (fun r => { r with state := .finishing, asm := {} })).binding 0
       q.asm.base = none ∧ q.countersBounded) ∧
      (filling.poolWhole ∧ r.countersBounded ∧ r.asm.slots.length = 8) ∧
      (r.state = .recording ∧ r.asm.base = some 100 ∧ 0 ≤ startOf r.terms (min (r.deltaOf 100 + 0) (2 ^ 31)) ∧
        0 < r.effEnd ∧ r.asm.slots[0]? = some (.filling 0 9000) ∧ Slot.open (.filling 0 9000) ∧
        ¬ 1 ≤ startOf r.terms (min (r.deltaOf 100 + 0) (2 ^ 31))) := by
  unfold State.hearsFrom Slot.open Binding.countersBounded State.poolWhole State.heldCells; decide +kernel

theorem witness_StopAtOnce :
    let r := filling.binding 0
    filling.hearsFrom 3 ∧ filling.activeFor 2 = none ∧ filling.activeFor 1 = some 0 ∧
      (let q := (busyWith (fun q => { q with state := .armed, asm := {} })).binding 0
       q.state = .armed ∧ q.asm.base = none) ∧
      (let q := (busyWith (fun q => { q with state := .finishing, asm := {} })).binding 0
       q.state = .finishing ∧ q.asm.base = none) ∧
      (r.state = .recording ∧ r.asm.base = some 100 ∧ r.countersBounded ∧ filling.poolWhole ∧ r.asm.slots.length = 8) ∧
      (((busyWith (fun q => { q with state := .finishing })).binding 0).state = .finishing) := by
  unfold State.hearsFrom Binding.countersBounded State.poolWhole State.heldCells; decide +kernel

theorem flight_whole : (inFlight id).poolWhole := by unfold State.poolWhole State.heldCells; decide +kernel

theorem flight_queues : (inFlight id).queuesLawful := by
  intro c; cases c <;> (unfold Store.queueLaw; decide +kernel)

theorem witness_AbortDrains :
    (inFlight id).hearsFrom 3 ∧ (inFlight id).poolWhole ∧ (inFlight id).queuesLawful ∧
      (inFlight id).activeFor 2 = none ∧ (inFlight id).activeFor 1 = some 0 :=
  ⟨hears3 _ (by decide +kernel), flight_whole, flight_queues, by decide +kernel⟩

theorem witness_RecordingEnds_pending :
    (let s := busyWith (fun r => { r with state := .draining })
     (s.binding 0).state = .draining ∧ (s.binding 0).donePending = .no ∧ ¬ s.flies 0 ∧
       ((s.updBinding 0 (fun r => { r with donePending := .suppressed })).binding 0).donePending = .suppressed) ∧
    (flying (busyWith (fun r => { r with state := .draining })) (.ended 0)).flies 0 ∧
    (let s := busyWith (fun r => { r with state := .finishing })
     (s.binding 0).state = .finishing ∧ (s.binding 0).donePending = .no ∧ s.isQuiet 0) ∧
    ¬ (writing (fun j => { j with todo := [] })).isQuiet 0 := by
  refine ⟨⟨by decide +kernel, by decide +kernel, free_flies (by decide +kernel) 0, by decide +kernel⟩,
    ⟨3, txOf (.ended 0), by decide +kernel, by decide +kernel⟩,
    ⟨by decide +kernel, by decide +kernel, ?_, by decide +kernel, ?_, free_flies (by decide +kernel) 0, by decide +kernel,
      by decide +kernel⟩, ?_⟩
  · intro x hx
    have hs : ((busyWith (fun r => { r with state := .finishing })).binding 0).asm.slots = List.replicate 8 (.free none) := by
      decide +kernel
    rw [hs] at hx
    rw [List.eq_of_mem_replicate hx]
    exact id
  · intro c; cases c <;> decide +kernel
  · rintro ⟨-, -, h, -⟩
    exact h .live { job0 with todo := [] } (by decide +kernel) rfl

/-- The last place of the queue is free, or the queue is full and one notice behind the one in SENDING may give way. -/
theorem witness_RecordingEnds_done :
    let old : Notice := .decline 1 .clipBusy 0
    let new : Notice := .source .new 7 0 1 0 0 false
    let s := busyWith (fun r => { r with state := .finishing, reason := some .stopped, donePending := .yes })
    (s.node = .running ∧ (s.binding 0).donePending = .yes ∧ (s.binding 0).clip = some 1 ∧
      (∀ b' < (0 : BindingNo), (s.binding b').donePending ≠ .yes) ∧
      { s with lane := { tx := .defer, queue := List.replicate 15 old } }.acceptsDone ∧
      { s with lane := { tx := .sending, queue := List.replicate 15 old ++ [new] } }.acceptsDone) ∧
    ¬ { s with lane := { tx := .sending, queue := new :: List.replicate 15 old } }.acceptsDone ∧
    (let d := busyWith (fun r => { r with state := .draining, donePending := .suppressed })
     (d.binding 0).donePending = .suppressed ∧ (d.binding 0).state = .draining ∧ ¬ d.flies 0) ∧
    (busy.binding 0).donePending = .no ∧ ((busyWith (fun r => { r with donePending := .suppressed })).binding 0).state ≠ .draining := by
  refine ⟨?_, ?_, ⟨by decide +kernel, by decide +kernel, free_flies (by decide +kernel) 0⟩, by decide +kernel⟩ <;>
  · unfold State.acceptsDone; decide +kernel

theorem witness_QueryIsAnswered :
    (3 : Station) ≠ busy.opts.station ∧ (1 : Clip) ≠ 0 ∧ (restarting busy).node = .restarting ∧ busy.node = .running ∧
      (8 : BitVec 8).toNat ≠ busy.opts.station.val ∧ (8 : BitVec 8) ≠ 255 ∧ (9 : BitVec 8).toNat = busy.opts.station.val ∧
      busy.holderOf 1 = some 0 ∧ busy.holderOf 2 = none := by decide +kernel

theorem witness_NodeRestarts :
    (3 : Station) ≠ (inFlight id).opts.station ∧ (inFlight id).node = .running ∧
      (9 : BitVec 8).toNat = (inFlight id).opts.station.val ∧ (inFlight id).poolWhole ∧ (inFlight id).queuesLawful ∧
      (8 : BitVec 8).toNat ≠ (inFlight id).opts.station.val ∧ (restarting busy).node = .restarting ∧
      (restarting busy).flightless ∧ ¬ (inFlight id).flightless := by
  refine ⟨by decide +kernel, by decide +kernel, by decide +kernel, flight_whole, flight_queues, by decide +kernel,
    by decide +kernel, free_flightless (by decide +kernel), fun h => h 3 (txOf (.job .essence 0 0 0)) (by decide +kernel)⟩

/-- A TAKE that bears the node's own number, alone and as the echo of a notice in SENDING, a DECLINE that bears it, and a
record with a wrong CRC. -/
theorem witness_NodeWithdraws :
    (Instr.take 2000 9 1 5 1 9).time? = some 2000 ∧ (inFlight id).poolWhole ∧ (inFlight id).queuesLawful ∧
      (inFlight id).node = .running ∧
      noticeOf (.take 2000 9 1 5 1 9) = some ((inFlight id).opts.station, 0x22, [0, 0, 0, 1, 5, 1, 9]) ∧
      (let body : List Byte := [0, 0, 0, 1, 2, 0]
       (Instr.noticeNotDelivered 2000 (wireFrame (inFlight id).opts.station 0x23 body)).time? = some 2000 ∧
         body.length ≤ 64 ∧ body.length ∈ allowedLengths (0x23 : Byte).toNat) ∧
      (let n : Notice := .take 1 5 .primary (some 9)
       let s : State := { inFlight id with lane := { tx := .sending, queue := [n] } }
       s.lane.tx = .sending ∧ s.lane.queue = n :: [] ∧ n.kind = 0x22 ∧ n.body = [0, 0, 0, 1, 5, 1, 9]) ∧
      (inFlight id).lane.tx ≠ .sending ∧ State.reset.node = .loading ∧ State.reset.poolWhole ∧ State.reset.queuesLawful ∧
      (crc16 ((record9.set 0 42).toList.take 69)).toNat ≠ field (record9.set 0 42).toList 69 2 ∧
      field (record9.set 0 32).toList 0 1 % 32 = 0 := by
  refine ⟨rfl, flight_whole, flight_queues, by decide +kernel, by decide +kernel, ⟨rfl, by decide, by decide⟩, by decide +kernel,
    by decide +kernel, by decide +kernel, by unfold State.poolWhole State.heldCells; decide +kernel, ?_, by decide +kernel, by decide +kernel⟩
  intro c; cases c <;> (unfold Store.queueLaw; decide +kernel)

/-- The ABORT frame of R171, the same at a station of 32 and at 31, a body of 65 bytes, and a length that the kind does not
allow. -/
theorem witness_FramesAreHeard :
    let body : List Byte := [0, 0, 0x9C, 0xB5]
    body.length ≤ 255 ∧ State.reset.node = .loading ∧ up.node = .running ∧
      (0xDED7 : BitVec 16) ≠ crc16 (3 :: 0x13 :: BitVec.ofNat 8 body.length :: body) ∧
      (0xDED6 : BitVec 16) = crc16 (3 :: 0x13 :: BitVec.ofNat 8 body.length :: body) ∧
      31 < (32 : Byte).toNat ∧ (31 : Byte).toNat ≤ 31 ∧ 64 < (List.replicate 65 (0 : Byte)).length ∧
      body.length ∉ allowedLengths (0x12 : Byte).toNat ∧ (3 : Byte).toNat ≠ up.opts.station.val ∧ body.length ≤ 64 ∧
      body.length ∈ allowedLengths (0x13 : Byte).toNat := by decide +kernel

/-- Attempts 0, 1 and 15 in DEFER and SENDING, and the transmitter in each other state. -/
theorem witness_LaneAccess :
    let l (tx : TransmitterState) (k : Nat) : Lane := { tx := tx, attempts := k, queue := [.decline 1 .clipBusy 0] }
    (l .defer 0).tx = .defer ∧ (l .defer 0).attempts = 0 ∧ (l .defer 1).attempts ≠ 0 ∧ (l (.holdoff 3) 1).tx = .holdoff 3 ∧
      (l .sending 15).tx = .sending ∧ { l .sending 0 with lastAttempt := true }.lastAttempt = true ∧
      (l .sending 15).lastAttempt = false ∧ 15 ≤ (l .sending 15).attempts ∧ (l .sending 14).attempts < 15 ∧
      (l .sending 0).tx ≠ .defer ∧ (∀ n, (l .defer 0).tx ≠ .holdoff n) ∧ (l .defer 0).tx ≠ .sending := by
  refine ⟨rfl, rfl, by decide, rfl, rfl, rfl, rfl, by decide, by decide, by decide, nofun, by decide⟩

/-- A queue of 16 notices that are not evicted. -/
def stuck : List Notice := List.replicate 16 (.decline 1 .clipBusy 0)

theorem witness_NoticesAreQueued_simple :
    State.reset.node = .loading ∧ up.node = .running ∧
      (let old : Notice := .take 1 5 .primary none
       let n : Notice := .take 1 6 .primary none
       let q : List Notice := [.take 1 4 .settling none, .decline 1 .clipBusy 0, old]
       q = q.take 1 ++ [.decline 1 .clipBusy 0] ++ old :: [] ∧ old.sameSubject n ∧
         ∀ x ∈ ([.decline 1 .clipBusy 0] : List Notice) ++ [], ¬ x.sameSubject n) ∧
      (let n : Notice := .decline 2 .clipBusy 0
       (∀ q ∈ (stuck.take 15).drop 0, ¬ q.sameSubject n) ∧ (stuck.take 15).length < 16 ∧ 16 ≤ stuck.length ∧
         n.evictable = false ∧ (Notice.source .new 7 0 1 0 0 false).evictable = true ∧
         (∀ q ∈ stuck.drop 0, q.evictable = false) ∧
         ∀ clip role th runs, n = .extent clip role th runs → ∀ q ∈ stuck.drop 0, ¬ q.extentFor clip) ∧
      (let old : Notice := .source .new 7 0 1 0 0 false
       stuck.take 15 ++ [old] = [] ++ stuck.take 15 ++ old :: [] ∧ old.evictable = true ∧
         ∀ q ∈ stuck.take 15, q.evictable = false) := by
  refine ⟨rfl, rfl, ⟨rfl, rfl, ?_⟩, ⟨?_, by decide, by decide, by decide, by decide, by decide, nofun⟩, by decide⟩
  · intro x hx; obtain rfl := List.mem_singleton.1 hx; exact id
  · intro x hx
    obtain rfl := List.eq_of_mem_replicate (List.mem_of_mem_take (List.mem_of_mem_drop hx) : x ∈ List.replicate 16 _)
    exact id

/-- An EXTENT of five runs is waiting; the new run adjoins its last one, or does not. -/
theorem witness_NoticesAreQueued_extent :
    let runs : List Run := [⟨0, 1, .gap⟩, ⟨2, 3, .gap⟩, ⟨4, 5, .gap⟩, ⟨6, 7, .gap⟩]
    let q : Run := ⟨8, 9, .gap⟩
    let old : Notice := .extent 1 .primary 8 (runs ++ [q])
    [old, .extent 2 .primary 0 [q]] = [] ++ [] ++ old :: [.extent 2 .primary 0 [q]] ∧
      (∀ x ∈ ([.extent 2 .primary 0 [q]] : List Notice), ¬ x.extentFor 1) ∧ runs.length < 5 ∧
      (let r : Run := ⟨9, 10, .gap⟩; r.start = q.stop ∧ r.kind = q.kind) ∧
      ¬ (let r : Run := ⟨10, 11, .gap⟩; r.start = q.stop ∧ r.kind = q.kind) := by
  refine ⟨rfl, ?_, by decide, by decide, by decide⟩
  intro x hx
  obtain rfl := List.mem_singleton.1 hx
  show ¬ ((2 : Clip) = 1)
  decide

/-- Three new runs for an EXTENT of five: one joins the last, one is appended as the sixth, one is left over. -/
theorem witness_NoticesAreQueued_runs :
    let five : List Run := [⟨0, 1, .gap⟩, ⟨2, 3, .gap⟩, ⟨4, 5, .gap⟩, ⟨6, 7, .gap⟩, ⟨8, 9, .gap⟩]
    let merged : List Run := [⟨0, 1, .gap⟩, ⟨2, 3, .gap⟩, ⟨4, 5, .gap⟩, ⟨6, 7, .gap⟩, ⟨8, 10, .gap⟩, ⟨12, 13, .gap⟩]
    five.length < 6 ∧ mergesTo five [⟨9, 10, .gap⟩, ⟨12, 13, .gap⟩, ⟨14, 15, .gap⟩] merged [⟨14, 15, .gap⟩] ∧
      mergesTo merged [] merged [] := by
  refine ⟨by decide, ?_, rfl, rfl⟩
  refine mergesTo_joins (pre := [⟨0, 1, .gap⟩, ⟨2, 3, .gap⟩, ⟨4, 5, .gap⟩, ⟨6, 7, .gap⟩]) (by decide) ?_
  refine mergesTo_appends (by decide) (by decide) ?_
  exact mergesTo_leaves (pre := [⟨0, 1, .gap⟩, ⟨2, 3, .gap⟩, ⟨4, 5, .gap⟩, ⟨6, 7, .gap⟩, ⟨8, 10, .gap⟩]) (by decide) (by decide)

/-- A DECLINE beside other notices, and an EXTENT whose clip has a queued one of six runs. -/
theorem witness_NoticesAreQueued_place :
    (Notice.decline 2 .clipBusy 0).needsPlace stuck ∧
      (Notice.extent 1 .primary 3 [⟨0, 1, .gap⟩]).needsPlace [.extent 1 .primary 2 (List.replicate 6 ⟨0, 1, .gap⟩)] := by
  refine ⟨⟨fun q hq => ?_, nofun⟩, ⟨fun q hq => ?_, fun clip role th runs h pre role' th' queued post e _ => ?_⟩⟩
  · obtain rfl := List.eq_of_mem_replicate (hq : q ∈ List.replicate 16 _); exact id
  · obtain rfl := List.mem_singleton.1 hq; exact id
  · cases h
    obtain ⟨rfl, h, rfl⟩ : pre = [] ∧ _ ∧ post = [] := by
      match pre, e with
      | [], e => exact ⟨rfl, (List.cons.inj e).1, (List.cons.inj e).2.symm⟩
      | [_], e => simp at e
      | _ :: _ :: _, e => simp at e
    cases h
    exact ⟨by simp, by decide⟩

/-- The first browse slot, chosen or not, a base part that just fits its slot and one that does not, and a YELLOW
frame whose draw is just below the entry 512 or at it. -/
theorem witness_BrowseDecision :
    let s := (writing id).updBinding 0 (fun r => { r with undecided := [0] })
    let r := s.binding 0
    let f : FrameRecord := { frame0 with state := .writing, users := 2, colour := some .green }
    r.undecided ≠ [] ∧ (restarting s).node ≠ .running ∧ (busy.binding 0).undecided = [] ∧
      s.node = .running ∧ r.state.active = true ∧ r.undecided = 0 :: [] ∧ s.frame? 0 = some f ∧
      f.spanStart / r.terms.divisor = 0 ∧ (0 : Fin 32).val = 0 % 32 ∧ r.ring[(0 : Fin 32)] ≠ some 0 ∧
      (r.ring.set 0 (some 0))[(0 : Fin 32)] = some 0 ∧ r.terms.browseCells - 1 = 3 ∧
      r.terms.browseCells - 1 < { f with base := 4 }.base ∧ { f with base := 3 }.base ≤ r.terms.browseCells - 1 ∧
      { f with colour := some .yellow }.colour = some .yellow ∧
      (galois 1022).toNat % 1024 < s.opts.thinning.getD (min 15 (s.browse.occupancy / 1024)) 0 ∧
      ¬ (galois 1024).toNat % 1024 < s.opts.thinning.getD (min 15 (s.browse.occupancy / 1024)) 0 ∧
      f.colour ≠ some .yellow := by decide +kernel

theorem witness_JobsAreHandedOver :
    let s (n : Nat) : State := { busy with store := { busy.store with live := List.replicate n job0 } }
    (s 255).store.link = .up ∧ ((s 255).store.queue job0.cls).length < 256 ∧ 256 ≤ ((s 256).store.queue job0.cls).length ∧
      ((s 256).binding job0.binding).state.active = true ∧ job0.kind = .essence ∧ { job0 with kind := .browse }.kind = .browse ∧
      busy.frame? 0 = none ∧
      (writing id).frame? 0 = some { frame0 with state := .writing, users := 2, colour := some .green } ∧
      (let f : FrameRecord := { frame0 with state := .released, users := 1 }
       (withFrame0 busy (fun _ => f)).frame? 0 = some f ∧ f.state = .released ∧ f.users ≤ 1) ∧
      filling.frame? 0 = some frame0 ∧ frame0.users = 0 := by decide +kernel

/-- The frame of the granted job with both its pieces. -/
theorem witness_GrantIssues :
    let f : FrameRecord :=
      { frame0 with state := .writing, users := 2, colour := some .green, cells := [(0, [1, 2, 3]), (1, [1, 2, 3])] }
    let s := { writing id with frames := [f], freeCells := 16382 }
    (∀ c : JobClass, busy.eligible c = false) ∧ s.queuesLawful ∧ s.winsGrant .live ∧
      { s with opts := { opts9 with strict := true } }.winsGrant .live ∧
      s.tag 3 = .free ∧ s.store.queue .live = [] ++ job0 :: [] ∧ job0.todo = 0 :: [] ∧ s.frame? job0.frame = some f ∧
      f.cells = (List.range f.pieces).map (fun k => (k, [1, 2, 3])) ∧ f.base ≤ f.pieces ∧ f.quality = some 11 := by
  refine ⟨?_, ?_, ⟨by decide +kernel, ?_⟩, ⟨by decide +kernel, ?_⟩, by decide +kernel⟩
  · intro c; cases c <;> decide +kernel
  · intro c; cases c <;> (unfold Store.queueLaw; decide +kernel)
  · intro d; cases d <;> decide +kernel
  · intro d; cases d <;> decide +kernel

/-- An essence job whose record transaction is in flight. -/
def recordsInFlight (g : Job → Job) : State := inFlight (fun j => g { j with phase := .records })

theorem removed_flies :
    let s := flying busy (.removed .essence 0 0)
    s.tag 3 = .busy (txOf (.removed .essence 0 0)) ∧ (s.setTag 4 (.busy (txOf (.removed .essence 0 0)))).removedFlies .essence 0 ∧
      ¬ (s.tagged 3 .free 0).removedFlies .essence 0 := by
  refine ⟨by decide +kernel, ⟨4, txOf (.removed .essence 0 0), 0, by decide +kernel, rfl⟩, ?_⟩
  rintro ⟨g, tx, b, h, -⟩
  exact free_not_busy ((by decide +kernel :
    ∀ g : Tag, ((flying busy (.removed .essence 0 0)).tagged 3 .free 0).tag g = .free) g) tx h

theorem witness_CompletionOk :
    (busy.tag 3 = .free ∧
    (∀ j ∈ [{ job0 with todo := [], left := 2 }, { job0 with todo := [] }],
      let s := inFlight (fun x => { x with left := j.left })
      s.tag 3 = .busy (txOf (.job .essence 0 0 0)) ∧ s.store.jobOf .essence 0 = some j) ∧
    1 < { job0 with left := 2 }.left ∧ job0.left ≤ 1 ∧ job0.phase = .body) ∧
    (let s := recordsInFlight id
     s.store.jobOf .essence 0 = some { job0 with todo := [], phase := .records } ∧ (s.binding 0).state.active = true ∧
       (s.binding 0).coord.bounded) ∧
    (let s := holdingOne.insertExtent 0 .ownWritten 0 1
     s.yieldsTo 0 [(0, 1)] (fun _ => true) ∧ s.yieldsTo 0 [(1, 2)] (fun _ => false)) ∧
    (let s := flying busy (.removed .essence 0 0)
     s.tag 3 = .busy (txOf (.removed .essence 0 0)) ∧ (s.setTag 4 (.busy (txOf (.removed .essence 0 0)))).removedFlies .essence 0 ∧
       ¬ (s.tagged 3 .free 0).removedFlies .essence 0) ∧
    (let j : Job := { job0 with cls := .browse, kind := .browse, phase := .records, todo := [] }
     let s := flying { busy with store := { busy.store with browse := [j] } } (.job .browse 0 0 0)
     s.tag 3 = .busy (txOf (.job .browse 0 0 0)) ∧ s.store.jobOf .browse 0 = some j ∧ j.left ≤ 1) ∧
    (flying busy (.ended 0)).tag 3 = .busy (txOf (.ended 0)) ∧
    (let s : State := flying { busy with store := { link := .failed, nextProbe := some 2000 } } (.probe true)
     s.tag 3 = .busy (txOf (.probe true)) ∧ s.store.link = .failed) ∧
    (flying busy (.probe false)).tag 3 = .busy (txOf (.probe false)) := by
  refine ⟨by decide +kernel, ⟨by decide +kernel, by decide +kernel, empty_bounded (by decide +kernel)⟩,
    held_yields _ 0 .ownWritten (.inl rfl) (by decide +kernel), removed_flies, by decide +kernel⟩

/-- The second failure in a row, and the third; a first RETRY, and one after a reissue, used and ignored; two tags in flight; a
removed job with another transaction in flight, and with none. -/
theorem witness_CompletionFails :
    let s (k : Nat) (l : List Nat) : State :=
      let v := inFlight (fun j => { j with retried := l })
      { v with store := { v.store with failures := k } }
    ((∀ k ∈ [1, 2], (s k []).tag 3 = .busy (txOf (.job .essence 0 0 0)) ∧
      (s k []).store.jobOf .essence 0 = some { job0 with todo := [] } ∧ (s k []).store.link = .up ∧
      ((s k []).binding 0).state.active = true) ∧
    (s 1 []).store.failures < 2 ∧ 2 ≤ (s 2 []).store.failures ∧ Status.retry ≠ .ok ∧ Status.fault ≠ .ok ∧
    0 ∉ job0.retried ∧ (s 1 [0]).store.jobOf .essence 0 = some { job0 with todo := [], retried := [0] } ∧
    ((s 1 []).setTag 4 (.busy (txOf (.job .essence 0 0 1)))).tag 4 = .busy (txOf (.job .essence 0 0 1)) ∧ (4 : Tag) ≠ 3 ∧
    (flying busy (.ended 0)).tag 3 = .busy (txOf (.ended 0)) ∧ (flying busy (.job .essence 0 0 0)).store.jobOf .essence 0 = none ∧
    (let tx : Transaction := { txOf (.ended 0) with retried := true }
     (busy.setTag 3 (.busy tx)).tag 3 = .busy tx ∧ tx.owner = .ended 0) ∧
    (flying busy (.probe true)).tag 3 = .busy (txOf (.probe true)) ∧ (∀ d, (txOf (.ended 0)).owner ≠ .probe d)) ∧
    (let s := flying busy (.removed .essence 0 0)
     s.tag 3 = .busy (txOf (.removed .essence 0 0)) ∧ (s.setTag 4 (.busy (txOf (.removed .essence 0 0)))).removedFlies .essence 0 ∧
       ¬ (s.tagged 3 .free 0).removedFlies .essence 0) :=
  ⟨by decide +kernel, removed_flies⟩

/-- Each time at the last moment before it and the first at it. -/
theorem witness_StoreTimers :
    (inFlight id).tag 3 = .busy (txOf (.job .essence 0 0 0)) ∧
      (inFlight id).store.jobOf .essence 0 = some { job0 with todo := [] } ∧
      2 ^ 47 ≤ ((20999 : Time) - (txOf (.ended 0)).deadline).toNat ∧
      ((21000 : Time) - (txOf (.ended 0)).deadline).toNat < 2 ^ 47 ∧
      (flying busy (.ended 0)).tag 3 = .busy (txOf (.ended 0)) ∧ (flying busy (.probe true)).tag 3 = .busy (txOf (.probe true)) ∧
      (inFlight id).store.failures < 2 ∧ (inFlight id).store.link = .up ∧
      2 ≤ { (inFlight id).store with failures := 2 }.failures ∧ busy.tag 3 = .free ∧
      (up.setTag 3 (.retired 41000)).tag 3 = .retired 41000 ∧
      (let h : PacingHold := ⟨1000, 2000000⟩
       h.ns < (((3000 : Time) - h.since).toNat + 1) * 1000 ∧ (((2999 : Time) - h.since).toNat + 1) * 1000 ≤ h.ns ∧
         { up.store with pacing := some h }.pacing = some h) ∧ up.store.pacing = none := by decide +kernel

theorem witness_LinkFollowsReady :
    (inFlight id).store.link = .up ∧ (inFlight id).tag 0 = .free ∧
      (flying up (.probe true)).tag 3 = .busy (txOf (.probe true)) ∧ (TxOwner.probe true).binding? = none ∧
      (let st : Store := { trainingSince := 1000 }
       st.link = .training ∧ st.link ≠ .up ∧ 1000 ≤ ((2000 : Time) - st.trainingSince).toNat ∧
         ((1999 : Time) - st.trainingSince).toNat < 1000) ∧
      (let st : Store := { link := .failed, nextProbe := some 2000 }
       st.nextProbe = some 2000 ∧ st.link = .failed ∧ ((2000 : Time) - 2000).toNat < 2 ^ 47 ∧
         2 ^ 47 ≤ ((1999 : Time) - 2000).toNat ∧
         (∀ b : BindingNo, ({ up with store := st }.binding b).state.active = false) ∧
         (({ busy with store := st }.binding 0).state.active = true ∧
           ∀ b' < (0 : BindingNo), (({ busy with store := st }).binding b').state.active = false) ∧
         (∃ x tx, (flying { busy with store := st } (.probe true)).tag x = .busy tx ∧ tx.owner.binding? = none) ∧
         (∀ x : Tag, { up with store := { st with tags := Vector.replicate 8 (.retired 0) } }.tag x ≠ .free) ∧
         (∀ x tx, { busy with store := st }.tag x = .busy tx → tx.owner.binding? ≠ none) ∧
         { busy with store := st }.tag 3 = .free ∧ { restarting up with store := st }.node ≠ .running) ∧
      up.store.nextProbe = none := by
  refine ⟨by decide +kernel, by decide +kernel, by decide +kernel, by decide +kernel, by decide +kernel, ?_, by decide +kernel⟩
  refine ⟨by decide +kernel, by decide +kernel, by decide +kernel, by decide +kernel, by decide +kernel,
    by decide +kernel, ⟨3, txOf (.probe true), by decide +kernel, by decide +kernel⟩,
    by decide +kernel, fun x tx h => absurd h ?_, by decide +kernel⟩
  exact free_not_busy ((by decide +kernel : ∀ g : Tag,
    ({ busy with store := { link := .failed, nextProbe := some 2000 } } : State).tag g = .free) x) tx

/-- A state at work with one command waiting keeps every law before a step, and the step answers. -/
def working : State := { inFlight id with pending := [.grant 2000 4] }

theorem witness_laws_before_a_step :
    working.poolWhole ∧ working.metersBounded ∧ working.tableLawful ∧ working.endsAgree ∧ working.coordBounded ∧
      working.countersBounded ∧ working.laneBounded ∧ working.queuesLawful ∧ working.fltnAgrees ∧
      step working = exec (.grant 2000 4) (inFlight id) ∧ up.pending = [] := by
  refine ⟨flight_whole, by unfold State.metersBounded Binding.meterBounded; decide +kernel,
    ⟨by decide +kernel, List.pairwise_singleton _ _, by decide +kernel, by decide +kernel, by decide +kernel⟩,
    by unfold State.endsAgree Binding.endsAgree; decide +kernel, ?_,
    by unfold State.countersBounded Binding.countersBounded; decide +kernel,
    by unfold State.laneBounded Lane.bounded; decide +kernel, flight_queues, by unfold State.fltnAgrees; decide +kernel, rfl, rfl⟩
  intro b
  have hm : ∀ b : BindingNo, (working.binding b).coord.map = [] := by decide +kernel
  refine ⟨by rw [hm b]; trivial, ?_⟩
  revert b
  decide +kernel

theorem witness_NoticesRoundTrip :
    ∀ i ∈ ([.abort 5 31 1, .restart 5 0 9, .stop 5 3 1 0xFFFFFE, .immediateStop 5 3 1,
        .extent 5 4 1 2 5 (List.replicate 6 ⟨1, 4, 1⟩)] : List Instr),
      i.wf = true ∧ i.time? = some 5 ∧ (noticeOf i).isSome = true := by decide +kernel

/-- A full map of 64 extents, and the position in front of it. -/
theorem witness_InsertionKeepsPrecedence :
    mapOrdered [⟨0, 4, .ownGap⟩, ⟨4, 5, .ownWritten⟩, ⟨7, 9, .primaryGap⟩] ∧
      ((List.range 64).map (fun i => Extent.mk (2 * i + 1) (2 * i + 2) .ownGap)).length ≤ 64 := by
  refine ⟨?_, by decide⟩
  unfold mapOrdered mapOrdered mapOrdered
  decide

end Sys2Proof.Tests
end

section
/-! The law of the Source Table and of the bindings (R11, R42, R43), kept by every step.

The law speaks of little: the key and the bound field of each entry, and the clip and the key of each binding that is not
IDLE. `State.tableView` is that part of the state. Nearly every operation leaves the view as it is, said once for each
as a `simp` lemma; the few that change it do so by one of four changes of the view, and each of these keeps the law. -/

namespace Sys2Proof.Machine

/-! ### The view -/

/-- A source and stream (R36). -/
abbrev SourceKey := SourceId × BitVec 8

/-- What the law reads of an entry: its key and its bound field. -/
structure Tie where
  key   : SourceKey
  bound : Option BindingNo

/-- What a binding that is not IDLE holds alone: its clip and its source and stream (R11). -/
structure Claim where
  clip : Option Clip
  key  : SourceKey

/-- The entries and the claims of a state; an IDLE binding makes no claim. -/
structure TableView where
  entries : List Tie
  claims  : Vector (Option Claim) 16

/-- The claim of a binding. -/
def TableView.claimOf (v : TableView) (b : BindingNo) : Option Claim := v.claims[b]

def SourceEntry.tie (e : SourceEntry) : Tie := ⟨(e.source, e.stream), e.bound⟩

def Binding.claim (r : Binding) : Option Claim :=
  if r.state = .idle then none else some ⟨r.clip, (r.terms.source, r.terms.stream)⟩

def State.tableView (s : State) : TableView := ⟨s.sources.map SourceEntry.tie, s.bindings.map Binding.claim⟩

theorem TableView.ext {v w : TableView} (entries : v.entries = w.entries) (claims : ∀ b, v.claimOf b = w.claimOf b) :
    v = w := by
  obtain ⟨ve, vc⟩ := v
  obtain ⟨we, wc⟩ := w
  obtain rfl : ve = we := entries
  obtain rfl : vc = wc := Vector.ext fun i hi => claims ⟨i, hi⟩
  rfl

theorem State.tableView_claimOf (s : State) (b : BindingNo) : s.tableView.claimOf b = (s.binding b).claim :=
  Vector.getElem_map ..

/-- The law of a view (R11, R42, R43). -/
structure TableView.Lawful (v : TableView) : Prop where
  sized    : v.entries.length ≤ Config.sourceEntries
  distinct : (v.entries.map Tie.key).Nodup
  named    : ∀ b c, v.claimOf b = some c → c.clip ≠ none
  entered  : ∀ b c, v.claimOf b = some c → ⟨c.key, some b⟩ ∈ v.entries
  claimed  : ∀ k b, ⟨k, some b⟩ ∈ v.entries → ∃ c, v.claimOf b = some c ∧ c.key = k
  apart    : ∀ b b' c c', v.claimOf b = some c → v.claimOf b' = some c' → b ≠ b' → c.clip ≠ c'.clip

theorem Binding.claim_eq_none_iff (r : Binding) : r.claim = none ↔ r.state = .idle := by
  simp [Binding.claim]

theorem Binding.claim_eq_some_iff (r : Binding) (c : Claim) :
    r.claim = some c ↔ r.state ≠ .idle ∧ c = ⟨r.clip, (r.terms.source, r.terms.stream)⟩ := by
  by_cases h : r.state = .idle <;> simp [Binding.claim, h, eq_comm]

theorem SourceEntry.tie_eq_iff (e : SourceEntry) (k : SourceKey) (o : Option BindingNo) :
    e.tie = ⟨k, o⟩ ↔ e.bound = o ∧ e.source = k.1 ∧ e.stream = k.2 := by
  simp [SourceEntry.tie, Prod.ext_iff, and_comm]

theorem State.mem_entries_iff (s : State) (k : SourceKey) (o : Option BindingNo) :
    ⟨k, o⟩ ∈ s.tableView.entries ↔ ∃ e ∈ s.sources, e.bound = o ∧ e.source = k.1 ∧ e.stream = k.2 := by
  simp [State.tableView, SourceEntry.tie_eq_iff]

theorem State.keys_nodup_iff (s : State) :
    (s.tableView.entries.map Tie.key).Nodup ↔ s.sources.Pairwise SourceEntry.differs := by
  simp only [State.tableView, List.map_map, List.Nodup, List.pairwise_map]
  refine List.Pairwise.iff fun {e e'} => ?_
  simp [SourceEntry.tie, SourceEntry.differs, Prod.ext_iff]
  tauto

/-- The law of a state is the law of its view. -/
theorem State.tableLawful_iff (s : State) : s.tableLawful ↔ s.tableView.Lawful := by
  have claim (b : BindingNo) (c : Claim) := s.tableView_claimOf b ▸ (s.binding b).claim_eq_some_iff c
  constructor
  · rintro ⟨sized, distinct, holds, bound, apart⟩
    refine ⟨by simpa [State.tableView] using sized, s.keys_nodup_iff.mpr distinct, ?_, ?_, ?_, ?_⟩
    · intro b c h
      obtain ⟨hb, rfl⟩ := (claim b c).mp h
      exact (holds b hb).1
    · intro b c h
      obtain ⟨hb, rfl⟩ := (claim b c).mp h
      exact (s.mem_entries_iff _ _).mpr (holds b hb).2
    · intro k b h
      obtain ⟨e, he, hbound, hk1, hk2⟩ := (s.mem_entries_iff _ _).mp h
      obtain ⟨hb, h1, h2⟩ := bound e he b hbound
      exact ⟨_, (claim b _).mpr ⟨hb, rfl⟩, Prod.ext (h1.symm.trans hk1) (h2.symm.trans hk2)⟩
    · intro b b' c c' h h' hne
      obtain ⟨hb, rfl⟩ := (claim b c).mp h
      obtain ⟨hb', rfl⟩ := (claim b' c').mp h'
      exact apart b b' hne hb hb'
  · rintro ⟨sized, distinct, named, entered, claimed, apart⟩
    refine ⟨by simpa [State.tableView] using sized, s.keys_nodup_iff.mp distinct, ?_, ?_, ?_⟩
    · intro b hb
      have h := (claim b _).mpr ⟨hb, rfl⟩
      exact ⟨named b _ h, (s.mem_entries_iff _ _).mp (entered b _ h)⟩
    · intro e he b hbound
      obtain ⟨c, hc, hk⟩ := claimed (e.source, e.stream) b ((s.mem_entries_iff _ _).mpr ⟨e, he, hbound, rfl, rfl⟩)
      obtain ⟨hb, rfl⟩ := (claim b c).mp hc
      exact ⟨hb, (congrArg Prod.fst hk).symm, (congrArg Prod.snd hk).symm⟩
    · intro b b' hne hb hb'
      exact apart b b' _ _ ((claim b _).mpr ⟨hb, rfl⟩) ((claim b' _).mpr ⟨hb', rfl⟩) hne

/-! ### The four changes of a view -/

namespace TableView

variable {v : TableView}

theorem Lawful.tie_unique (hv : v.Lawful) {e e' : Tie} (he : e ∈ v.entries) (he' : e' ∈ v.entries)
    (h : e.key = e'.key) : e = e' :=
  List.inj_on_of_nodup_map hv.distinct he he' h

/-- No binding holds the source of an entry that is not bound. -/
theorem Lawful.unbound_not_claimed (hv : v.Lawful) {k : SourceKey} (he : ⟨k, none⟩ ∈ v.entries) {b : BindingNo}
    {c : Claim} (hc : v.claimOf b = some c) : c.key ≠ k := by
  intro h
  have := hv.tie_unique (hv.entered b c hc) he h
  simp at this

/-- A change of the bound fields leaves the keys distinct. -/
theorem Lawful.map_keys_nodup (hv : v.Lawful) {f : Tie → Tie} (h : ∀ e, (f e).key = e.key) :
    ((v.entries.map f).map Tie.key).Nodup := by
  rw [List.map_map, show Tie.key ∘ f = Tie.key from funext h]
  exact hv.distinct

/-- A binding becomes IDLE and its entry is unbound (R20). -/
def release (v : TableView) (b : BindingNo) : TableView where
  entries := v.entries.map (fun e => if e.bound = some b then { e with bound := none } else e)
  claims := v.claims.set b none

@[simp] theorem claimOf_release (b x : BindingNo) : (v.release b).claimOf x = if x = b then none else v.claimOf x := by
  simp only [release, claimOf, Fin.getElem_fin, Vector.getElem_set, Fin.val_inj, eq_comm]

theorem mem_release_iff (k : SourceKey) (b x : BindingNo) :
    ⟨k, some x⟩ ∈ (v.release b).entries ↔ ⟨k, some x⟩ ∈ v.entries ∧ x ≠ b := by
  simp only [release, List.mem_map]
  constructor
  · rintro ⟨e, he, h⟩
    split at h
    · simp at h
    · subst h; exact ⟨he, by rintro rfl; contradiction⟩
  · rintro ⟨he, hx⟩
    exact ⟨_, he, by simp [hx]⟩

theorem claimOf_release_iff (b x : BindingNo) (c : Claim) :
    (v.release b).claimOf x = some c ↔ v.claimOf x = some c ∧ x ≠ b := by
  by_cases h : x = b <;> simp [h]

theorem Lawful.release (hv : v.Lawful) (b : BindingNo) : (v.release b).Lawful where
  sized := by simpa [TableView.release] using hv.sized
  distinct := hv.map_keys_nodup fun e => by split <;> rfl
  named x c h := hv.named x c ((claimOf_release_iff b x c).mp h).1
  entered x c h := by
    obtain ⟨hc, hx⟩ := (claimOf_release_iff b x c).mp h
    exact (mem_release_iff _ b x).mpr ⟨hv.entered x c hc, hx⟩
  claimed k x h := by
    obtain ⟨he, hx⟩ := (mem_release_iff k b x).mp h
    obtain ⟨c, hc, hk⟩ := hv.claimed k x he
    exact ⟨c, (claimOf_release_iff b x c).mpr ⟨hc, hx⟩, hk⟩
  apart x y c d h h' := hv.apart x y c d ((claimOf_release_iff b x c).mp h).1 ((claimOf_release_iff b y d).mp h').1

/-- An IDLE binding takes a request: it makes its claim, and the entry of its source is bound to it (R10). -/
def take (v : TableView) (b : BindingNo) (c : Claim) : TableView where
  entries := v.entries.map (fun e => if e.key = c.key then { e with bound := some b } else e)
  claims := v.claims.set b (some c)

@[simp] theorem claimOf_take (b x : BindingNo) (c : Claim) :
    (v.take b c).claimOf x = if x = b then some c else v.claimOf x := by
  simp only [take, claimOf, Fin.getElem_fin, Vector.getElem_set, Fin.val_inj, eq_comm]

theorem Lawful.take (hv : v.Lawful) {b : BindingNo} {c : Claim} (idle : v.claimOf b = none)
    (entry : ⟨c.key, none⟩ ∈ v.entries) (named : c.clip ≠ none)
    (fresh : ∀ x d, v.claimOf x = some d → d.clip ≠ c.clip) : (v.take b c).Lawful where
  sized := by simpa [TableView.take] using hv.sized
  distinct := hv.map_keys_nodup fun e => by split <;> rfl
  named x d h := by
    by_cases hx : x = b
    · obtain rfl : c = d := by simpa [hx] using h
      exact named
    · exact hv.named x d (by simpa [hx] using h)
  entered x d h := by
    by_cases hx : x = b
    · obtain rfl : c = d := by simpa [hx] using h
      exact List.mem_map.mpr ⟨_, entry, by simp [hx]⟩
    · have hd : v.claimOf x = some d := by simpa [hx] using h
      exact List.mem_map.mpr ⟨_, hv.entered x d hd, by simp [hv.unbound_not_claimed entry hd]⟩
  claimed k x h := by
    obtain ⟨e, he, h⟩ := List.mem_map.mp h
    split at h
    · cases h; exact ⟨c, by simp, Eq.symm ‹_›⟩
    · subst h
      obtain ⟨d, hd, hk⟩ := hv.claimed k x he
      have hx : x ≠ b := by rintro rfl; simp [idle] at hd
      exact ⟨d, by simp [hx, hd], hk⟩
  apart x y d d' h h' hne := by
    by_cases hx : x = b
    · have hy : y ≠ b := fun k => hne (hx.trans k.symm)
      obtain rfl : c = d := by simpa [hx] using h
      exact (fresh y d' (by simpa [hy] using h')).symm
    · have hd : v.claimOf x = some d := by simpa [hx] using h
      by_cases hy : y = b
      · obtain rfl : c = d' := by simpa [hy] using h'
        exact fresh x d hd
      · exact hv.apart x y d d' hd (by simpa [hy] using h') hne

/-- A source is learned: its entry is not bound (R38). -/
def learn (v : TableView) (k : SourceKey) : TableView := { v with entries := v.entries ++ [⟨k, none⟩] }

theorem Lawful.learn (hv : v.Lawful) {k : SourceKey} (room : v.entries.length < Config.sourceEntries)
    (fresh : k ∉ v.entries.map Tie.key) : (v.learn k).Lawful where
  sized := by simpa [TableView.learn] using room
  distinct := by
    simp only [TableView.learn, List.map_append, List.map_cons, List.map_nil, List.nodup_append]
    exact ⟨hv.distinct, List.nodup_singleton k, by
      rintro a ha _ hb rfl
      exact fresh (List.mem_singleton.mp hb ▸ ha)⟩
  named := hv.named
  entered x c h := List.mem_append_left _ (hv.entered x c h)
  claimed j x h := hv.claimed j x (by simpa [TableView.learn] using h)
  apart := hv.apart

/-- The entry of a source leaves the table (R39). -/
def forget (v : TableView) (k : SourceKey) : TableView := { v with entries := v.entries.filter (fun e => e.key ≠ k) }

theorem Lawful.forget (hv : v.Lawful) {k : SourceKey} (entry : ⟨k, none⟩ ∈ v.entries) : (v.forget k).Lawful where
  sized := (List.length_filter_le _ _).trans hv.sized
  distinct := hv.distinct.sublist (List.filter_sublist.map _)
  named := hv.named
  entered x c h := List.mem_filter.mpr ⟨hv.entered x c h, by simpa using hv.unbound_not_claimed entry h⟩
  claimed j x h := hv.claimed j x (List.mem_filter.mp h).1
  apart := hv.apart

/-- A table without entries, every binding IDLE. -/
theorem lawful_of_empty (entries : v.entries = []) (claims : ∀ b, v.claimOf b = none) : v.Lawful := by
  constructor <;> simp [entries, claims]

end TableView

/-! ### The updates leave the view as it is -/

section Steady

variable (s : State) (b : BindingNo)

/-- A change of one record that keeps its claim. -/
theorem State.updBinding_tableView (f : Binding → Binding) (h : (f (s.binding b)).claim = (s.binding b).claim) :
    (s.updBinding b f).tableView = s.tableView := by
  refine TableView.ext rfl fun x => ?_
  rw [State.tableView_claimOf, State.tableView_claimOf, State.binding_updBinding]
  split
  · next hx => rw [hx, h]
  · rfl

@[simp] theorem State.updAsm_tableView (f : Assembly → Assembly) : (s.updAsm b f).tableView = s.tableView :=
  s.updBinding_tableView b _ rfl

@[simp] theorem State.updAcct_tableView (f : Accounting → Accounting) : (s.updAcct b f).tableView = s.tableView :=
  s.updBinding_tableView b _ rfl

@[simp] theorem State.updCoord_tableView (f : Coordination → Coordination) :
    (s.updCoord b f).tableView = s.tableView :=
  s.updBinding_tableView b _ rfl

@[simp] theorem State.atTime_tableView (t : Time) : (s.atTime t).tableView = s.tableView := rfl
@[simp] theorem State.updStore_tableView (f : Store → Store) : (s.updStore f).tableView = s.tableView := rfl
@[simp] theorem State.updLane_tableView (f : Lane → Lane) : (s.updLane f).tableView = s.tableView := rfl
@[simp] theorem State.updHouse_tableView (f : House → House) : (s.updHouse f).tableView = s.tableView := rfl
@[simp] theorem State.updCounters_tableView (f : NodeCounters → NodeCounters) :
    (s.updCounters f).tableView = s.tableView := rfl
@[simp] theorem State.updPort_tableView (p : PortNo) (f : Port → Port) : (s.updPort p f).tableView = s.tableView := rfl
@[simp] theorem State.setTag_tableView (g : Tag) (x : TagState) : (s.setTag g x).tableView = s.tableView := rfl
@[simp] theorem State.updFrame_tableView (i : Nat) (f : FrameRecord → FrameRecord) :
    (s.updFrame i f).tableView = s.tableView := rfl
@[simp] theorem State.frames_tableView (fr : List FrameRecord) (n : Nat) :
    ({ s with frames := fr, freeCells := n } : State).tableView = s.tableView := rfl
@[simp] theorem State.updJob_tableView (j : Job) (f : Job → Job) : (s.updJob j f).tableView = s.tableView := rfl
@[simp] theorem State.dropJob_tableView (j : Job) : (s.dropJob j).tableView = s.tableView := rfl
@[simp] theorem State.issue_tableView (g : Tag) (o : TxOwner) (r : Bool) (a : Nat) (d : List Byte) :
    (s.issue g o r a d).tableView = s.tableView := rfl

/-- Steps that each leave the view as it is leave it so together. -/
@[simp] theorem foldl_tableView {α : Type} (f : State → α → State) (h : ∀ s x, (f s x).tableView = s.tableView)
    (l : List α) : ∀ s : State, (l.foldl f s).tableView = s.tableView := by
  induction l with
  | nil => exact fun s => rfl
  | cons x xs ih => exact fun s => (ih (f s x)).trans (h s x)

@[simp] theorem State.updTags_tableView (f : TagState → TagState) : (s.updTags f).tableView = s.tableView :=
  foldl_tableView (fun s g => s.setTag g (f (s.tag g))) (fun _ _ => rfl) _ s

@[simp] theorem State.count_tableView (c : BindingCounter) (k : Nat) : (s.count b c k).tableView = s.tableView := by
  unfold State.count
  split
  · exact s.updBinding_tableView b _ rfl
  · rfl

/-! ### Frames, notices, extents -/

@[simp] theorem State.freeFrame_tableView (i : Nat) : (s.freeFrame i).tableView = s.tableView := by
  obtain ⟨fr, n, h⟩ := s.freeFrame_spec i
  rw [h]; rfl

@[simp] theorem State.releaseFrame_tableView (i : Nat) : (s.releaseFrame i).tableView = s.tableView := by
  obtain ⟨fr, n, h⟩ := s.releaseFrame_spec i
  rw [h]; rfl

@[simp] theorem State.giveBack_tableView (i : Nat) : (s.giveBack i).tableView = s.tableView := by
  obtain ⟨fr, n, h⟩ := s.giveBack_spec i
  rw [h]; rfl

@[simp] theorem State.offer_tableView (n : Notice) : (s.offer n).tableView = s.tableView := by
  obtain ⟨l, c, h⟩ := s.offer_spec n
  rw [h]; rfl

@[simp] theorem State.offerTake_tableView : (s.offerTake b).tableView = s.tableView := by
  unfold State.offerTake
  dsimp only
  split
  · split <;> simp
  · rfl

@[simp] theorem State.report_tableView (r : Run) : (s.report b r).tableView = s.tableView := by
  simp [State.report]

@[simp] theorem State.insertExtent_tableView (k : ExtentKind) (lo hi : Nat) :
    (s.insertExtent b k lo hi).tableView = s.tableView := by
  simp [State.insertExtent]

@[simp] theorem State.ownGap_tableView (lo hi : Nat) : (s.ownGap b lo hi).tableView = s.tableView := by
  unfold State.ownGap
  dsimp only
  split
  · split <;> simp
  · rfl

@[simp] theorem State.yieldFrame_tableView (i : Nat) : (s.yieldFrame b i).tableView = s.tableView := by
  simp [State.yieldFrame]

@[simp] theorem State.yieldCovered_tableView (ranges : List (Nat × Nat)) :
    (s.yieldCovered b ranges).tableView = s.tableView := by
  simp [State.yieldCovered]

/-! ### Jobs and writes -/

@[simp] theorem State.endTransactions_tableView (k : JobKind) (i : Nat) :
    (s.endTransactions k i).tableView = s.tableView := by
  simp [State.endTransactions]

@[simp] theorem State.tellFailure_tableView (j : Job) : (s.tellFailure j).tableView = s.tableView := by
  unfold State.tellFailure
  split <;> simp

@[simp] theorem State.failJob_tableView (j : Job) : (s.failJob j).tableView = s.tableView := by
  simp [State.failJob]

@[simp] theorem State.handOver_tableView (j : Job) : (s.handOver j).tableView = s.tableView := by
  unfold State.handOver
  split <;> simp

@[simp] theorem State.writeFrame_tableView (i : Nat) (cls : JobClass) (c : BindingCounter) :
    (s.writeFrame b i cls c).tableView = s.tableView := by
  unfold State.writeFrame
  split
  · rfl
  · dsimp only
    split
    · rw [State.updBinding_tableView]
      · simp
      · rfl
    · simp

@[simp] theorem State.fillHeld_tableView (h : Held) : (s.fillHeld b h).tableView = s.tableView := by
  simp [State.fillHeld, State.unhold, State.writeFill]

@[simp] theorem State.fillAll_tableView (hs : List Held) : (s.fillAll b hs).tableView = s.tableView := by
  simp [State.fillAll]

@[simp] theorem State.pressureTest_tableView : (s.pressureTest b).tableView = s.tableView := by
  unfold State.pressureTest
  split
  · split <;> simp
  · rfl

/-! ### Roles and grades -/

@[simp] theorem State.promote_tableView : (s.promote b).tableView = s.tableView := by
  simp [State.promote, State.writeLive]

@[simp] theorem State.changeView_tableView (best : Station) : (s.changeView b best).tableView = s.tableView := by
  unfold State.changeView
  dsimp only
  split <;> simp

@[simp] theorem State.evaluate_tableView : (s.evaluate b).tableView = s.tableView := by
  unfold State.evaluate
  split <;> simp

@[simp] theorem State.recomputeGrade_tableView : (s.recomputeGrade b).tableView = s.tableView := by
  unfold State.recomputeGrade
  dsimp only
  split <;> simp

@[simp] theorem State.recomputeGrades_tableView (order : List Nat) :
    (s.recomputeGrades order).tableView = s.tableView := by
  simp [State.recomputeGrades]

/-! ### Closures and completed frames -/

@[simp] theorem State.takeClosure_tableView (o : Closure) : (s.takeClosure b o).tableView = s.tableView := by
  simp [State.takeClosure]

@[simp] theorem State.colourFrame_tableView (f : FrameRecord) : (s.colourFrame b f).tableView = s.tableView := by
  unfold State.colourFrame
  dsimp only
  split <;> simp

@[simp] theorem State.redFrame_tableView (f : FrameRecord) : (s.redFrame b f).tableView = s.tableView := by
  simp [State.redFrame]

@[simp] theorem State.holdFrame_tableView (f : FrameRecord) : (s.holdFrame b f).tableView = s.tableView := by
  unfold State.holdFrame
  dsimp only
  split <;> simp

@[simp] theorem State.decideFate_tableView (i : Nat) : (s.decideFate b i).tableView = s.tableView := by
  unfold State.decideFate
  split
  · rfl
  · dsimp only
    split
    · simp
    · split
      · simp
      · split <;> simp [State.writeLive]

@[simp] theorem State.accountComplete_tableView (f : FrameRecord) :
    (s.accountComplete b f).tableView = s.tableView := by
  simp [State.accountComplete]

/-! ### The window -/

@[simp] theorem State.setSlot_tableView (i : Nat) (x : Slot) : (s.setSlot b i x).tableView = s.tableView := by
  simp [State.setSlot]

@[simp] theorem State.advanceBase_tableView : (s.advanceBase b).tableView = s.tableView := by
  unfold State.advanceBase
  split <;> simp

@[simp] theorem State.countClosure_tableView (o : Closure) : (s.countClosure b o).tableView = s.tableView := by
  cases o <;> simp [State.countClosure]

@[simp] theorem State.closeSlot_tableView (i : Nat) (o : Closure) : (s.closeSlot b i o).tableView = s.tableView := by
  unfold State.closeSlot
  dsimp only
  split <;> simp

@[simp] theorem State.handGaps_tableView (ranges : List (Nat × Nat)) : (s.handGaps b ranges).tableView = s.tableView := by
  simp [State.handGaps]

@[simp] theorem State.closeSlots_tableView (cs : List (Nat × Closure)) (extra : List (Nat × Nat)) :
    (s.closeSlots b cs extra).tableView = s.tableView := by
  simp [State.closeSlots]

@[simp] theorem State.completeFrame_tableView (i k : Nat) : (s.completeFrame b i k).tableView = s.tableView := by
  unfold State.completeFrame
  dsimp only
  split <;> simp

@[simp] theorem State.abandonFrame_tableView (i k : Nat) (d : Time) :
    (s.abandonFrame b i k d).tableView = s.tableView := by
  simp [State.abandonFrame]

@[simp] theorem State.placeCell_tableView (i : Nat) (f : FrameRecord) (p : Piece) :
    (s.placeCell b i f p).tableView = s.tableView := by
  unfold State.placeCell
  dsimp only
  split <;> simp

@[simp] theorem State.fillingPiece_tableView (i k : Nat) (d : Time) (p : Piece) :
    (s.fillingPiece b i k d p).tableView = s.tableView := by
  unfold State.fillingPiece
  split
  · rfl
  · split
    · simp
    · split
      · simp
      · split <;> simp

@[simp] theorem State.countSkip_tableView (r : SkipReason) : (s.countSkip b r).tableView = s.tableView := by
  cases r <;> simp [State.countSkip]

@[simp] theorem State.forceAdvance_tableView (k : Nat) : (s.forceAdvance b k).tableView = s.tableView := by
  simp [State.forceAdvance]

@[simp] theorem State.noteArrival_tableView : (s.noteArrival b).tableView = s.tableView := by
  unfold State.noteArrival
  dsimp only
  split <;> simp

@[simp] theorem State.finishingPiece_tableView (p : Piece) : (s.finishingPiece b p).tableView = s.tableView := by
  unfold State.finishingPiece
  dsimp only
  split
  · split <;> simp
  · simp

@[simp] theorem State.slotDeadline_tableView (n : FrameCount) : (s.slotDeadline b n).tableView = s.tableView := by
  unfold State.slotDeadline
  dsimp only
  split
  · split
    · rfl
    · split
      · rfl
      · split
        · split <;> simp
        · rfl
  · rfl

/-! ### Bindings that move between states other than IDLE

These write the state of their binding whatever it was, so they leave the view as it is only where the binding is not IDLE
already. -/

theorem State.claimOf_ne_none_iff : s.tableView.claimOf b ≠ none ↔ (s.binding b).state ≠ .idle :=
  s.tableView_claimOf b ▸ not_congr (s.binding b).claim_eq_none_iff

variable {s b}

/-- A change of a record that is not IDLE, and does not become so, that keeps its clip and terms. -/
theorem State.updBinding_tableView_of_busy {f : Binding → Binding} (hb : s.tableView.claimOf b ≠ none)
    (state : (f (s.binding b)).state ≠ .idle) (clip : (f (s.binding b)).clip = (s.binding b).clip)
    (terms : (f (s.binding b)).terms = (s.binding b).terms) : (s.updBinding b f).tableView = s.tableView := by
  refine s.updBinding_tableView b f ?_
  rw [Binding.claim, Binding.claim, if_neg state, if_neg ((s.claimOf_ne_none_iff b).mp hb), clip, terms]

theorem State.enterFinishing_tableView (hb : s.tableView.claimOf b ≠ none) (r : FinishReason) :
    (s.enterFinishing b r).tableView = s.tableView := by
  have entered : (s.updBinding b (fun x => { x with state := .finishing, reason := some r })).tableView = s.tableView :=
    State.updBinding_tableView_of_busy hb (by simp) rfl rfl
  unfold State.enterFinishing
  dsimp only
  split <;> simp [entered]

theorem State.beyondEnd_tableView (hb : s.tableView.claimOf b ≠ none) : (s.beyondEnd b).tableView = s.tableView :=
  State.enterFinishing_tableView hb _

theorem State.openFrame_tableView (hb : s.tableView.claimOf b ≠ none) (i : Nat) (own : Option Time) (p : Piece) :
    (s.openFrame b i own p).tableView = s.tableView := by
  unfold State.openFrame
  dsimp only
  split
  · split
    · rw [State.beyondEnd_tableView] <;> simp [hb]
    · simp
  · simp only [State.fillingPiece_tableView, State.setSlot_tableView, State.frames_tableView, State.updAsm_tableView]

theorem State.pieceInSlot_tableView (hb : s.tableView.claimOf b ≠ none) (i : Nat) (p : Piece) :
    (s.pieceInSlot b i p).tableView = s.tableView := by
  unfold State.pieceInSlot
  split
  · rfl
  · exact State.openFrame_tableView hb i _ p
  all_goals simp

theorem State.recordingPiece_tableView (hb : s.tableView.claimOf b ≠ none) (p : Piece) :
    (s.recordingPiece b p).tableView = s.tableView := by
  unfold State.recordingPiece
  dsimp only
  split
  · simp
  · split
    · simp
    · split
      · exact State.pieceInSlot_tableView hb _ p
      · rw [State.pieceInSlot_tableView] <;> simp [hb]

theorem State.armedPiece_tableView (hb : s.tableView.claimOf b ≠ none) (p : Piece) :
    (s.armedPiece b p).tableView = s.tableView := by
  have started : (s.updBinding b (fun r =>
      { r with state := .recording, asm := { r.asm with base := some r.terms.anchor } })).tableView = s.tableView :=
    State.updBinding_tableView_of_busy hb (by simp) rfl rfl
  unfold State.armedPiece
  dsimp only
  split
  · simp
  · rw [State.recordingPiece_tableView (started ▸ hb), started]

variable (s b)

theorem State.claimOf_ne_none_of_state {x : BindingState} (h : (s.binding b).state = x) (hx : x ≠ .idle) :
    s.tableView.claimOf b ≠ none :=
  (s.claimOf_ne_none_iff b).mpr (h ▸ hx)

/-- Wherever a piece goes, nobody's claim changes: only a binding that is not IDLE takes it (R3, R40). -/
@[simp] theorem State.routePiece_tableView (p : Piece) : (s.routePiece b p).tableView = s.tableView := by
  unfold State.routePiece
  split
  · rfl
  · rfl
  · next h => rw [State.armedPiece_tableView] <;> simp [s.claimOf_ne_none_of_state b h]
  · next h => rw [State.recordingPiece_tableView] <;> simp [s.claimOf_ne_none_of_state b h]
  · simp

/-! ### Stops -/

@[simp] theorem State.lowerStop_tableView (p : Nat) : (s.lowerStop b p).tableView = s.tableView :=
  s.updBinding_tableView b _ rfl

@[simp] theorem State.releaseAbove_tableView (e : Nat) : (s.releaseAbove b e).tableView = s.tableView := by
  simp [State.releaseAbove]

@[simp] theorem State.endAbove_tableView : (s.endAbove b).tableView = s.tableView := by
  simp [State.endAbove]

@[simp] theorem State.stopAt_tableView (p : Nat) : (s.stopAt b p).tableView = s.tableView := by
  unfold State.stopAt
  dsimp only
  split
  · rfl
  · split
    · next h =>
      split
      · rw [State.enterFinishing_tableView] <;> simp [s.claimOf_ne_none_of_state b h]
      · simp
    · next h =>
      have busy := s.claimOf_ne_none_of_state b h
      split <;> split
      · rw [State.enterFinishing_tableView] <;> simp [busy]
      · simp
      · rw [State.enterFinishing_tableView] <;> simp [busy]
      · simp
    · split <;> simp
    · simp
    · simp

@[simp] theorem State.stopNow_tableView : (s.stopNow b).tableView = s.tableView := by
  unfold State.stopNow
  dsimp only
  split
  · next h => rw [State.enterFinishing_tableView] <;> simp [s.claimOf_ne_none_of_state b h]
  · rfl
  · rfl
  · split
    · split
      · next h => rw [State.enterFinishing_tableView] <;> simp [s.claimOf_ne_none_of_state b h]
      · simp
    · rfl

@[simp] theorem State.stopClip_tableView (clip : Clip) (p : Nat) : (s.stopClip clip p).tableView = s.tableView := by
  unfold State.stopClip
  split
  · split
    · rfl
    · split <;> simp
  · rfl

/-! ### Timed work of a binding -/

@[simp] theorem State.settle_tableView : (s.settle b).tableView = s.tableView := by
  unfold State.settle
  split
  · rfl
  · split <;> simp

@[simp] theorem State.takeDue_tableView : (s.takeDue b).tableView = s.tableView := by
  unfold State.takeDue
  split <;> simp

@[simp] theorem State.holdDue_tableView : (s.holdDue b).tableView = s.tableView := by
  unfold State.holdDue
  split
  · split <;> simp
  · rfl

@[simp] theorem State.extentDue_tableView : (s.extentDue b).tableView = s.tableView := by
  unfold State.extentDue
  dsimp only
  split
  · split <;> simp
  · rfl

@[simp] theorem State.fallSilent_tableView : (s.fallSilent b).tableView = s.tableView := by
  unfold State.fallSilent
  dsimp only
  split <;> simp

@[simp] theorem State.expireTaker_tableView (x : Station) : (s.expireTaker b x).tableView = s.tableView := by
  unfold State.expireTaker
  dsimp only
  split <;> simp

@[simp] theorem State.creditAll_tableView : s.creditAll.tableView = s.tableView := by
  refine foldl_tableView _ (fun s b => ?_) _ s
  dsimp only
  split
  · rfl
  · exact s.updBinding_tableView b _ rfl

@[simp] theorem State.becomeQuiet_tableView : (s.becomeQuiet b).tableView = s.tableView := by
  unfold State.becomeQuiet
  split
  · exact s.updBinding_tableView b _ rfl
  · rfl

/-! ### Peer notices and QUERY -/

@[simp] theorem State.peerTake_tableView (x : Station) (clip : Clip) (g : Nat) :
    (s.peerTake x clip g).tableView = s.tableView := by
  unfold State.peerTake
  split
  · split <;> simp
  · rfl

@[simp] theorem State.peerDone_tableView (x : Station) (clip : Clip) : (s.peerDone x clip).tableView = s.tableView := by
  unfold State.peerDone
  split
  · split <;> simp
  · rfl

@[simp] theorem State.insertAll_tableView (k : ExtentKind) (rs : List (Nat × Nat)) :
    (s.insertAll b k rs).tableView = s.tableView := by
  simp [State.insertAll]

@[simp] theorem State.peerExtent_tableView (x : Station) (clip : Clip) (through : Nat) (runs : List WireRun) :
    (s.peerExtent x clip through runs).tableView = s.tableView := by
  unfold State.peerExtent
  dsimp only
  split
  · split
    · rfl
    · rw [State.fillAll_tableView, State.yieldCovered_tableView]
      split <;> simp
  · rfl

@[simp] theorem State.answerQuery_tableView (target : BitVec 8) (clip : Clip) :
    (s.answerQuery target clip).tableView = s.tableView := by
  unfold State.answerQuery
  dsimp only
  split
  · split
    · simp
    · split
      · simp
      · split <;> simp
  · rfl

/-! ### The Store Port -/

@[simp] theorem State.leaveUp_tableView : s.leaveUp.tableView = s.tableView := by
  simp [State.leaveUp]

@[simp] theorem State.enterUp_tableView (order : List Nat) : (s.enterUp order).tableView = s.tableView := by
  simp [State.enterUp]

@[simp] theorem State.enterTraining_tableView (order : List Nat) : (s.enterTraining order).tableView = s.tableView := by
  unfold State.enterTraining State.retireProbes
  dsimp only
  split <;> simp

@[simp] theorem State.enterFailed_tableView (order : List Nat) : (s.enterFailed order).tableView = s.tableView := by
  simp [State.enterFailed]

@[simp] theorem State.countFailure_tableView (order : List Nat) : (s.countFailure order).tableView = s.tableView := by
  unfold State.countFailure
  dsimp only
  split <;> simp

@[simp] theorem State.countFailed_tableView : s.countFailed.tableView = s.tableView := rfl
@[simp] theorem State.clearFailures_tableView : s.clearFailures.tableView = s.tableView := rfl

@[simp] theorem State.resolveJob_tableView (j : Job) : (s.resolveJob j).tableView = s.tableView := by
  unfold State.resolveJob
  dsimp only
  split <;> simp

@[simp] theorem State.transactionOk_tableView (j : Job) : (s.transactionOk j).tableView = s.tableView := by
  unfold State.transactionOk
  split
  · rfl
  · split <;> simp

@[simp] theorem State.transactionFailed_tableView (j : Job) (order : List Nat) :
    (s.transactionFailed j order).tableView = s.tableView := by
  simp [State.transactionFailed]

@[simp] theorem State.transactionRetry_tableView (j : Job) (i : Nat) :
    (s.transactionRetry j i).tableView = s.tableView := rfl

@[simp] theorem State.endRemoved_tableView (k : JobKind) (i : Nat) : (s.endRemoved k i).tableView = s.tableView := by
  unfold State.endRemoved
  split <;> simp

@[simp] theorem State.ignoredOutcome_tableView (r : Bool) (x : Status) (order : List Nat) :
    (s.ignoredOutcome r x order).tableView = s.tableView := by
  unfold State.ignoredOutcome
  split
  · simp
  · split <;> simp
  · simp

@[simp] theorem State.endTransaction_tableView (tx : Transaction) (x : Status) (order : List Nat) :
    (s.endTransaction tx x order).tableView = s.tableView := by
  unfold State.endTransaction
  split
  · split <;> simp
  · simp
  · simp
  · split
    · simp
    · split
      · simp
      · split <;> simp
      · simp

@[simp] theorem State.complete_tableView (g : Tag) (x : Status) (order : List Nat) :
    (s.complete g x order).tableView = s.tableView := by
  unfold State.complete
  split <;> simp

@[simp] theorem State.timeOut_tableView (g : Tag) (order : List Nat) : (s.timeOut g order).tableView = s.tableView := by
  unfold State.timeOut
  split
  · split
    · dsimp only
      split <;> simp
    · rfl
  · rfl

@[simp] theorem State.probe_tableView (g : Tag) : (s.probe g).tableView = s.tableView := by
  unfold State.probe
  split
  · rfl
  · split
    · dsimp only
      split
      · split
        · simp
        · split
          · simp
          · split <;> simp
      · simp
    · rfl

@[simp] theorem State.weigh_tableView (c : JobClass) : (s.weigh c).tableView = s.tableView := by
  unfold State.weigh
  split <;> simp

@[simp] theorem State.issueFrom_tableView (c : JobClass) (g : Tag) : (s.issueFrom c g).tableView = s.tableView := by
  unfold State.issueFrom
  split
  · rfl
  · split
    · dsimp only
      split <;> simp
    · rfl

@[simp] theorem State.grantOnce_tableView (g : Tag) : (s.grantOnce g).tableView = s.tableView := by
  unfold State.grantOnce
  split <;> simp

/-! ### The browse decision, the ports and the transmitter -/

@[simp] theorem State.setRing_tableView (slot : Nat) : (s.setRing b slot).tableView = s.tableView :=
  s.updBinding_tableView b _ rfl

@[simp] theorem State.stepThinning_tableView (f : FrameRecord) : (s.stepThinning f).tableView = s.tableView := by
  unfold State.stepThinning
  split <;> rfl

@[simp] theorem State.decideBrowse_tableView (f : FrameRecord) : (s.decideBrowse b f).tableView = s.tableView := by
  unfold State.decideBrowse
  dsimp only
  split <;> simp

@[simp] theorem State.browseNext_tableView : (s.browseNext b).tableView = s.tableView := by
  unfold State.browseNext
  split
  · split
    · rfl
    · next rest _ =>
      have popped : (s.updBinding b (fun r => { r with undecided := rest })).tableView = s.tableView :=
        s.updBinding_tableView b _ rfl
      dsimp only
      split <;> simp [popped]
  · rfl

@[simp] theorem State.updateOccupancy_tableView : s.updateOccupancy.tableView = s.tableView := rfl

@[simp] theorem State.offerSource_tableView (e : SourceEntry) (x : SourceEvent) :
    (s.offerSource e x).tableView = s.tableView := by
  unfold State.offerSource
  split <;> simp

/-- A change of every entry that keeps its key and its bound field. -/
theorem State.mapSources_tableView (f : SourceEntry → SourceEntry) (h : ∀ e ∈ s.sources, (f e).tie = e.tie) :
    ({ s with sources := s.sources.map f } : State).tableView = s.tableView := by
  have ties : (s.sources.map f).map SourceEntry.tie = s.sources.map SourceEntry.tie := by
    rw [List.map_map]
    exact List.map_congr_left h
  exact congrArg (TableView.mk · _) ties

@[simp] theorem State.leaveSets_tableView (p : PortNo) (order : List Nat) :
    (s.leaveSets p order).tableView = s.tableView := by
  unfold State.leaveSets
  dsimp only
  rw [foldl_tableView _ (by simp)]
  exact s.mapSources_tableView _ fun e _ => by split <;> rfl

@[simp] theorem State.signalOn_tableView (p : PortNo) : (s.signalOn p).tableView = s.tableView := by
  unfold State.signalOn
  dsimp only
  split <;> simp

@[simp] theorem State.signalOff_tableView (p : PortNo) (order : List Nat) :
    (s.signalOff p order).tableView = s.tableView := by
  unfold State.signalOff
  dsimp only
  split <;> simp

@[simp] theorem State.badPiece_tableView (p : PortNo) (order : List Nat) :
    (s.badPiece p order).tableView = s.tableView := by
  unfold State.badPiece
  split
  · rfl
  · simp
  · dsimp only
    split <;> simp

@[simp] theorem State.noticeOut_tableView : s.noticeOut.tableView = s.tableView := by
  unfold State.noticeOut
  split <;> simp

@[simp] theorem State.collide_tableView : s.collide.tableView = s.tableView := by
  unfold State.collide
  split
  · dsimp only
    split
    · simp
    · split <;> simp
  · rfl

@[simp] theorem State.leaveHoldoff_tableView (x : TransmitterState) : (s.leaveHoldoff x).tableView = s.tableView := by
  unfold State.leaveHoldoff
  split <;> rfl

@[simp] theorem State.announce_tableView : s.announce.tableView = s.tableView := by
  simp [State.announce]

@[simp] theorem State.presenceDue_tableView : s.presenceDue.tableView = s.tableView := by
  unfold State.presenceDue
  split
  · rfl
  · split <;> simp

@[simp] theorem State.startPorts_tableView : s.startPorts.tableView = s.tableView := by
  refine foldl_tableView _ (fun s p => ?_) _ s
  split <;> simp

@[simp] theorem State.darkenPorts_tableView : s.darkenPorts.tableView = s.tableView := by
  refine (State.mapSources_tableView _ (fun e => { e with ports := 0 }) fun _ _ => rfl).trans ?_
  exact foldl_tableView (fun s p => s.updPort p Port.darken) (fun _ _ => rfl) _ s

end Steady

/-! ### The Source Table: pieces and ageing (R36 to R39) -/

section Table

variable {s : State} {b : BindingNo}

theorem State.entry?_some {src : SourceId} {stream : BitVec 8} {e : SourceEntry} (h : s.entry? src stream = some e) :
    e ∈ s.sources ∧ e.source = src ∧ e.stream = stream :=
  ⟨List.mem_of_find?_eq_some h, by simpa using List.find?_some h⟩

theorem State.entry?_tie_mem {src : SourceId} {stream : BitVec 8} {e : SourceEntry} (h : s.entry? src stream = some e) :
    ⟨(src, stream), e.bound⟩ ∈ s.tableView.entries := by
  obtain ⟨he, h1, h2⟩ := State.entry?_some h
  exact (s.mem_entries_iff _ _).mpr ⟨e, he, rfl, h1, h2⟩

/-- The keys of a lawful table being distinct, an update of the entry of a key by one of the same tie changes no tie. -/
theorem State.updEntry_tableView (hs : s.tableView.Lawful) {e e' : SourceEntry} (he : e ∈ s.sources)
    (h : e'.tie = e.tie) : (s.updEntry e.source e.stream (fun _ => e')).tableView = s.tableView := by
  refine s.mapSources_tableView _ fun x hx => ?_
  split
  · next k =>
    exact h.trans (hs.tie_unique (List.mem_map_of_mem he) (List.mem_map_of_mem hx) (Prod.ext k.1.symm k.2.symm))
  · rfl

theorem State.entryPiece_tableView (hs : s.tableView.Lawful) {e : SourceEntry} (he : e ∈ s.sources) (p : PortNo)
    (piece : Piece) : (s.entryPiece e p piece).tableView = s.tableView := by
  have heard : (s.updEntry e.source e.stream (fun _ => e.heard s p piece)).tableView = s.tableView :=
    State.updEntry_tableView hs he rfl
  unfold State.entryPiece
  dsimp only
  split
  · split <;> simp [heard]
  · split <;> split <;> simp [heard]

theorem State.learn_lawful (hs : s.tableView.Lawful) (p : PortNo) (piece : Piece)
    (h : s.entry? piece.source piece.stream = none) : (s.learn p piece).tableView.Lawful := by
  unfold State.learn
  split
  · next room =>
    rw [State.offerSource_tableView]
    have learned : ∀ e : SourceEntry, e.tie = ⟨(piece.source, piece.stream), none⟩ →
        ({ s with sources := s.sources ++ [e] } : State).tableView = s.tableView.learn (piece.source, piece.stream) := by
      intro e he
      simp [State.tableView, TableView.learn, he]
    rw [learned _ rfl]
    refine hs.learn (by simpa [State.tableView] using room) ?_
    simp only [State.entry?, List.find?_eq_none] at h
    simpa [State.tableView, SourceEntry.tie] using h
  · exact hs

theorem State.admitPiece_lawful (hs : s.tableView.Lawful) (p : PortNo) (piece : Piece) :
    (s.admitPiece p piece).tableView.Lawful := by
  unfold State.admitPiece
  split
  · split
    · next e h => rwa [State.entryPiece_tableView hs (State.entry?_some h).1]
    · next h => exact State.learn_lawful hs p piece h
  · exact hs

theorem State.goodPiece_lawful (hs : s.tableView.Lawful) (p : PortNo) (piece : Piece) :
    (s.goodPiece p piece).tableView.Lawful := by
  unfold State.goodPiece
  split
  · exact hs
  · split
    · exact State.admitPiece_lawful (s := s.updPort p _) hs p piece
    · exact hs
  · exact State.admitPiece_lawful (s := s.updPort p _) hs p piece

theorem State.ageOut_lawful (hs : s.tableView.Lawful) (src : SourceId) (stream : BitVec 8) :
    (s.ageOut src stream).tableView.Lawful := by
  unfold State.ageOut
  split
  · exact hs
  · next e h =>
    split
    · next aged =>
      obtain ⟨-, unbound, -⟩ := aged
      have forgotten : ({ s with sources := s.sources.filter (fun x => ¬ (x.source = src ∧ x.stream = stream)) } :
          State).tableView = s.tableView.forget (src, stream) := by
        simp [State.tableView, TableView.forget, List.filter_map, Function.comp_def, SourceEntry.tie]
      rw [State.offerSource_tableView, forgotten]
      exact hs.forget (unbound ▸ State.entry?_tie_mem h)
    · exact hs

/-! ### A binding becomes IDLE (R18 to R20) -/

theorem State.becomeIdle_tableView (s : State) (b : BindingNo) : (s.becomeIdle b).tableView = s.tableView.release b := by
  have ties : (s.becomeIdle b).sources.map SourceEntry.tie = (s.tableView.release b).entries := by
    rw [State.becomeIdle_eq]
    simp only [State.tableView, TableView.release, List.map_map]
    refine List.map_congr_left fun e _ => ?_
    by_cases h : e.bound = some b <;> simp [SourceEntry.tie, h]
  refine TableView.ext ties fun x => ?_
  rw [TableView.claimOf_release, State.tableView_claimOf, State.tableView_claimOf]
  split
  · next hx => simp [hx, State.becomeIdle_binding, Binding.afterIdle, Binding.claim]
  · next hx => rw [s.becomeIdle_others b x hx]

theorem State.drained_tableView (s : State) (b : BindingNo) :
    (s.drained b).tableView = s.tableView ∨ (s.drained b).tableView = s.tableView.release b := by
  obtain ⟨-, h⟩ | ⟨-, h⟩ | ⟨-, h⟩ := s.drained_cases b
  · exact .inl (h ▸ s.updBinding_tableView b _ rfl)
  · exact .inl (congrArg _ h)
  · exact .inr (h ▸ s.becomeIdle_tableView b)

/-- The end of an abort: with nothing in flight the binding is drained at once (R18, R19). -/
theorem State.drainUnlessFlying_tableView (s : State) (b : BindingNo) :
    (if s.inFlightOf b then s else s.drained b).tableView = s.tableView ∨
      (if s.inFlightOf b then s else s.drained b).tableView = s.tableView.release b := by
  split
  · exact .inl rfl
  · exact s.drained_tableView b

theorem State.endDrain_lawful (hs : s.tableView.Lawful) (b : BindingNo) : (s.endDrain b).tableView.Lawful := by
  unfold State.endDrain
  split
  · obtain h | h := s.drained_tableView b
    · exact h ▸ hs
    · exact h ▸ hs.release b
  · exact hs

theorem State.queueDone_lawful (hs : s.tableView.Lawful) (b : BindingNo) : (s.queueDone b).tableView.Lawful := by
  unfold State.queueDone
  dsimp only
  split
  · exact hs
  · split
    · rw [State.becomeIdle_tableView, State.offer_tableView]
      exact hs.release b
    · exact hs
  · split
    · exact s.becomeIdle_tableView b ▸ hs.release b
    · exact hs

@[simp] theorem State.removeJob_tableView (s : State) (j : Job) : (s.removeJob j).tableView = s.tableView := by
  unfold State.removeJob State.removeTransactions State.giveBackOwn
  split
  · simp
  · split
    · rfl
    · split <;> simp

@[simp] theorem State.giveBackOwn_tableView (s : State) (b : BindingNo) (i : Nat) :
    (s.giveBackOwn b i).tableView = s.tableView := by
  obtain h | ⟨-, h⟩ := s.giveBackOwn_cases b i <;> simp [h]

/-- An abort keeps the binding's claim while it drains, and gives it up where it is drained at once and its DONE is
suppressed. -/
theorem State.abortBinding_tableView (hb : s.tableView.claimOf b ≠ none) (p : DonePending) :
    (s.abortBinding b p).tableView = s.tableView ∨ (s.abortBinding b p).tableView = s.tableView.release b := by
  have aborted : (s.updBinding b (fun r =>
      { r with state := .draining, reason := some .aborted, donePending := p, coord := r.coord.drained,
               asm := { r.asm with base := none, slots := List.replicate Config.windowSlots (.free none) } })).tableView =
      s.tableView := State.updBinding_tableView_of_busy hb (by simp) rfl rfl
  have decided (u : State) : (u.updBinding b (fun r => { r with undecided := [] })).tableView = u.tableView :=
    u.updBinding_tableView b _ rfl
  unfold State.abortBinding
  dsimp only
  refine (State.drainUnlessFlying_tableView _ b).imp (fun h => h.trans ?_)
    (fun h => h.trans (congrArg (TableView.release · b) ?_))
  all_goals simp [State.releaseAll, State.dropJobsOf, aborted, decided]

theorem State.abortBinding_lawful (hs : s.tableView.Lawful) (hb : s.tableView.claimOf b ≠ none) (p : DonePending) :
    (s.abortBinding b p).tableView.Lawful := by
  obtain h | h := State.abortBinding_tableView hb p <;> rw [h]
  · exact hs
  · exact hs.release b

theorem State.abortBinding_claimOf_of_ne (hb : s.tableView.claimOf b ≠ none) (p : DonePending) {x : BindingNo}
    (hx : x ≠ b) : (s.abortBinding b p).tableView.claimOf x = s.tableView.claimOf x := by
  obtain h | h := State.abortBinding_tableView hb p <;> simp [h, hx]

/-- Bindings that are not IDLE are aborted one after another: none of them is made IDLE by the abort of another. -/
theorem foldl_abortBinding_lawful (p : DonePending) (l : List BindingNo) (hl : l.Nodup) :
    ∀ s : State, s.tableView.Lawful → (∀ b ∈ l, s.tableView.claimOf b ≠ none) →
      (l.foldl (fun s b => s.abortBinding b p) s).tableView.Lawful := by
  induction l with
  | nil => exact fun s hs _ => hs
  | cons b bs ih =>
    intro s hs hbusy
    obtain ⟨hb, hbs⟩ := List.nodup_cons.mp hl
    have busy : s.tableView.claimOf b ≠ none := hbusy b List.mem_cons_self
    rw [List.foldl_cons]
    refine ih hbs _ (State.abortBinding_lawful hs busy p) fun x hx => ?_
    rw [State.abortBinding_claimOf_of_ne busy p (fun h => hb (h ▸ hx))]
    exact hbusy x (List.mem_cons_of_mem b hx)

theorem State.mem_busyBindings_iff (s : State) (b : BindingNo) :
    b ∈ s.busyBindings ↔ s.tableView.claimOf b ≠ none := by
  rw [State.claimOf_ne_none_iff]
  simp [State.busyBindings, mem_allBindings]

theorem State.abortAll_lawful (hs : s.tableView.Lawful) : s.abortAll.tableView.Lawful :=
  foldl_abortBinding_lawful _ _ (nodup_allBindings.filter _) s hs fun b hb => (s.mem_busyBindings_iff b).mp hb

theorem State.activeFor_claimOf {clip : Clip} (h : s.activeFor clip = some b) : s.tableView.claimOf b ≠ none := by
  have active : s.isActive b = true := (List.mem_filter.mp (List.mem_of_find?_eq_some h)).2
  refine (s.claimOf_ne_none_iff b).mpr fun idle => ?_
  simp [State.isActive, idle, BindingState.active] at active

theorem State.abortClip_lawful (hs : s.tableView.Lawful) (clip : Clip) : (s.abortClip clip).tableView.Lawful := by
  unfold State.abortClip
  split
  · split
    · exact hs
    · next b h => exact State.abortBinding_lawful hs (State.activeFor_claimOf h) _
  · exact hs

/-! ### The node states (R189, R192 to R194) -/

theorem State.enterListening_lawful (hs : s.tableView.Lawful) : s.enterListening.tableView.Lawful := by
  simp only [State.enterListening, State.updLane_tableView, State.darkenPorts_tableView]
  exact State.abortAll_lawful hs

theorem State.loadOptions_lawful (hs : s.tableView.Lawful) (bytes : List Byte) :
    (s.loadOptions bytes).tableView.Lawful := by
  unfold State.loadOptions
  split
  · rw [State.announce_tableView, State.startPorts_tableView]
    exact hs
  · exact State.enterListening_lawful hs

theorem State.takeRestart_lawful (hs : s.tableView.Lawful) : s.takeRestart.tableView.Lawful := by
  unfold State.takeRestart
  rw [State.announce_tableView]
  exact State.abortAll_lawful hs

theorem foldl_becomeIdle_claimOf (l : List BindingNo) : ∀ (s : State) (x : BindingNo),
    (l.foldl (fun s b => s.becomeIdle b) s).tableView.claimOf x = if x ∈ l then none else s.tableView.claimOf x := by
  induction l with
  | nil => intro s x; simp
  | cons b bs ih =>
    intro s x
    rw [List.foldl_cons, ih, State.becomeIdle_tableView]
    by_cases hx : x = b <;> simp [hx]

/-- A node restart ends with every binding IDLE and the table empty (R194). -/
theorem State.endRestart_lawful (s : State) : s.endRestart.tableView.Lawful := by
  unfold State.endRestart
  rw [State.announce_tableView]
  refine TableView.lawful_of_empty rfl fun b => ?_
  have idled := foldl_becomeIdle_claimOf s.busyBindings s b
  refine Eq.trans (b := (s.busyBindings.foldl (fun s b => s.becomeIdle b) s).tableView.claimOf b) rfl ?_
  rw [idled]
  split
  · rfl
  · next h => exact not_not.mp (mt (s.mem_busyBindings_iff b).mpr h)

theorem State.reset_lawful (s : State) : ({ State.reset with pending := s.pending } : State).tableView.Lawful := by
  refine TableView.lawful_of_empty rfl fun b => ?_
  simp [State.tableView_claimOf, State.binding, State.reset, Binding.claim]

/-- A notice of another station keeps the law where what it delivers does; the node's own number aborts all (R173). -/
theorem State.receive_lawful (hs : s.tableView.Lawful) (x : Station) (k : Byte) (body : List Byte)
    (deliver : State → State) (h : (deliver s).tableView.Lawful) : (s.receive x k body deliver).tableView.Lawful := by
  unfold State.receive
  split
  · split
    · exact hs
    · split
      · exact State.enterListening_lawful hs
      · exact h
  · exact hs

theorem State.hearUndelivered_lawful (hs : s.tableView.Lawful) (bytes : List Byte) :
    (s.hearUndelivered bytes).tableView.Lawful := by
  unfold State.hearUndelivered
  split
  · split
    · exact hs
    · exact hs
    · exact hs
    · exact hs
    · exact State.receive_lawful hs _ _ _ _ hs
  · exact hs

/-! ### A request is taken (R4 to R10) -/

@[simp] theorem State.forgetClip_tableView (s : State) (clip : Clip) : (s.forgetClip clip).tableView = s.tableView := by
  refine foldl_tableView _ (fun s b => ?_) _ s
  split
  · next h => exact s.updBinding_tableView b _ (by simp [Binding.claim, h.1])
  · rfl

/-- A record is started and the entry of its source is bound to it (R10). -/
theorem State.startAndBind_tableView (s : State) (b : BindingNo) (r : Binding) {clip : Option Clip} {src : SourceId}
    {stream : BitVec 8} (h : r.claim = some ⟨clip, (src, stream)⟩) :
    ({ s.updBinding b (fun _ => r) with
        sources := (s.updBinding b (fun _ => r)).sources.map (fun e => e.bindTo b src stream) } : State).tableView =
      s.tableView.take b ⟨clip, (src, stream)⟩ := by
  have ties : (s.sources.map (fun e => e.bindTo b src stream)).map SourceEntry.tie =
      (s.tableView.take b ⟨clip, (src, stream)⟩).entries := by
    simp only [State.tableView, TableView.take, List.map_map]
    refine List.map_congr_left fun e _ => ?_
    by_cases k : e.source = src ∧ e.stream = stream <;> simp [SourceEntry.tie, SourceEntry.bindTo, k]
  refine TableView.ext ties fun x => ?_
  rw [TableView.claimOf_take, State.tableView_claimOf, State.tableView_claimOf]
  refine (congrArg Binding.claim (s.binding_updBinding b x (fun _ => r))).trans ?_
  split
  · exact h
  · rfl

theorem startBinding_claim (s : State) (req : Request) :
    (startBinding s req (clampRequest req)).claim = some ⟨some req.clip, (req.source, req.stream)⟩ := by
  simp [startBinding, Binding.claim, clampRequest]

theorem State.takeRequest_tableView (s : State) (b : BindingNo) (req : Request) (order : List Nat) :
    (s.takeRequest b req (clampRequest req) order).tableView =
      s.tableView.take b ⟨some req.clip, (req.source, req.stream)⟩ := by
  unfold State.takeRequest
  dsimp only
  rw [foldl_tableView _ (by simp), State.offerTake_tableView, State.updAcct_tableView,
    State.startAndBind_tableView _ _ _ (startBinding_claim s req), State.forgetClip_tableView]

/-- A node that hears a source has an entry of its key (R6), and where R9 finds that entry not bound, it is not bound. -/
theorem State.unbound_tie_mem {src : SourceId} {stream : BitVec 8} (hears : s.hears src stream)
    (unbound : s.sourceBound src stream = false) : ⟨(src, stream), none⟩ ∈ s.tableView.entries := by
  unfold State.hears at hears
  unfold State.sourceBound at unbound
  cases h : s.entry? src stream with
  | none => simp [h] at hears
  | some e =>
    have bound : e.bound = none := by simpa [h] using unbound
    exact bound ▸ State.entry?_tie_mem h

/-- A request that no check of R9 declines: no claim has its clip, and its source is not bound. -/
theorem State.stateCheck_none {req : Request} (h : s.stateCheck req = none) :
    (∀ x c, s.tableView.claimOf x = some c → c.clip ≠ some req.clip) ∧ s.sourceBound req.source req.stream = false := by
  unfold State.stateCheck at h
  split at h
  · simp at h
  · next clip =>
    split at h
    · simp at h
    · next source =>
      refine ⟨fun x c hc same => clip ?_, by simpa using source⟩
      obtain ⟨-, rfl⟩ := ((s.binding x).claim_eq_some_iff c).mp (s.tableView_claimOf x ▸ hc)
      exact List.any_eq_true.mpr ⟨x, (s.mem_busyBindings_iff x).mpr (by simp [hc]), by simpa using same⟩

theorem State.takeRequest_lawful (hs : s.tableView.Lawful) {req : Request} (hears : s.hears req.source req.stream)
    (check : s.stateCheck req = none) (idle : s.firstIdle = some b) (order : List Nat) :
    (s.takeRequest b req (clampRequest req) order).tableView.Lawful := by
  obtain ⟨fresh, unbound⟩ := State.stateCheck_none check
  rw [State.takeRequest_tableView]
  refine hs.take ?_ (State.unbound_tie_mem hears unbound) (by simp) fresh
  exact s.tableView_claimOf b ▸ (s.binding b).claim_eq_none_iff.mpr (by simpa using List.find?_some idle)

theorem State.considerRecord_lawful (hs : s.tableView.Lawful) (req : Request) (order : List Nat) :
    (s.considerRecord req order).tableView.Lawful := by
  unfold State.considerRecord
  split
  · simpa using hs
  · split
    · next hears =>
      dsimp only
      split
      · simpa using hs
      · split
        · simpa using hs
        · next check idle => exact State.takeRequest_lawful hs hears check idle order
        · exact hs
    · exact hs

end Table

/-! ### Every command, every step -/

/-- A command keeps the law. Those named change the view, or hear a notice that may be the node's own number; every other
leaves the view as it is. -/
theorem exec_keeps_lawful (i : Instr) {s u : State} (hs : s.tableView.Lawful) (h : exec i s = .next u) :
    u.tableView.Lawful := by
  have at_time (t : Time) : (s.atTime t).tableView.Lawful := hs
  cases i
  case coldReset => cases h; exact State.reset_lawful s
  case optionLoad t bytes =>
    obtain rfl := Host.Outcome.next.inj h
    split
    · exact State.loadOptions_lawful (at_time t) _
    · exact hs
  case pieceFramed t p piece order =>
    obtain rfl := Host.Outcome.next.inj h
    split
    · split
      · exact State.goodPiece_lawful (at_time t) p piece
      · simpa using hs
    · exact hs
  case sourceAgeOut t src stream =>
    obtain rfl := Host.Outcome.next.inj h
    split
    · exact State.ageOut_lawful (at_time t) src stream
    · exact hs
  case drainEnd t b => cases h; exact State.endDrain_lawful (at_time t) b
  case doneQueued t b => cases h; exact State.queueDone_lawful (at_time t) b
  case restartEnd t =>
    obtain rfl := Host.Outcome.next.inj h
    split
    · exact State.endRestart_lawful _
    · exact hs
  case record t x req order =>
    cases h
    refine State.receive_lawful (at_time t) _ _ _ _ ?_
    split
    · exact State.considerRecord_lawful (at_time t) req order
    · exact hs
  case abort t x clip =>
    cases h
    exact State.receive_lawful (at_time t) _ _ _ _ (State.abortClip_lawful (at_time t) clip)
  case restart t x target =>
    cases h
    refine State.receive_lawful (at_time t) _ _ _ _ ?_
    split
    · exact State.takeRestart_lawful (at_time t)
    · exact hs
  case stop | immediateStop | queryBinding | queryNode | take | extent | done =>
    cases h
    exact State.receive_lawful (at_time _) _ _ _ _ (by simpa using hs)
  case noticeNotDelivered t bytes => cases h; exact State.hearUndelivered_lawful (at_time t) bytes
  case pacingHoldEnd t =>
    obtain rfl := Host.Outcome.next.inj h
    split
    · exact hs
    · split <;> exact hs
  case tagRetirementEnd t g =>
    obtain rfl := Host.Outcome.next.inj h
    split
    · exact hs
    · exact hs
    · split <;> exact hs
  case payloadLengthBad | meterCredit | bindingSilent | takerExpiry | occupancyUpdate | hrefPulse | freeRunEntry |
      internalHouseFrame | idleGap | linkUp =>
    obtain rfl := Host.Outcome.next.inj h
    split
    all_goals simpa using hs
  all_goals
    obtain rfl := Host.Outcome.next.inj h
    simpa using hs

/-- Settles O55: the law of the state is the law of its view, and every command keeps it. -/
theorem tableIsKept : Obligations.TableIsKept := by
  intro s u hs h
  rw [State.tableLawful_iff] at hs ⊢
  unfold step at h
  split at h
  · cases h; exact hs
  · next c rest _ => exact exec_keeps_lawful (s := { s with pending := rest }) c hs h

end Sys2Proof.Machine
end

section
/-! An admitted piece of a source that has no entry (R25 to R41), along the way of the piece: the receiver's checks, the
port, the Source Table, and the notice queue that takes the SOURCE. The lemmas of the checks, of an admitting port and of an
offered SOURCE say nothing of the table, and serve pieces of known sources too. -/

namespace Sys2Proof.Machine

variable {s : State} {p : PortNo} {piece : Piece}

/-! ### The piece and its port (R25, R26, R29, R30) -/

theorem lengthGood_iff (len : Nat) : lengthGood len = true ↔ 1 ≤ len ∧ len ≤ 1024 := decide_eq_true_iff

/-- The receiver's checks are those of R26. -/
theorem pieceGood_iff (piece : Piece) : pieceGood piece = true ↔ ¬ isBadPiece piece := by
  have checks : pieceGood piece = true ↔ piece.crc = expectedCrc piece ∧ headerGood piece = true := by
    simp only [pieceGood, Bool.and_eq_true, decide_eq_true_eq]
  rw [checks]
  simp only [headerGood, decide_eq_true_eq, expectedCrc, isBadPiece, not_or, not_lt, not_le, ne_eq, not_not,
    Nat.one_le_iff_ne_zero]

theorem portBit_eq_shift (p : PortNo) : portBit p = 1#8 <<< p.val := by revert p; decide

/-- A command that brings a good piece hands it to the port. -/
theorem exec_of_bringsGood {c : Instr} {t : Time} (h : bringsGood c t p piece) :
    exec c s = .next ((s.atTime t).goodPiece p piece) := by
  obtain ⟨one_le, le_cell, good, order, rfl⟩ := h
  have arm : exec (.pieceFramed t p piece order) s = execPieceFramed t p piece order s := rfl
  rw [arm, execPieceFramed, if_pos ((lengthGood_iff _).mpr ⟨one_le, le_cell⟩), if_pos ((pieceGood_iff _).mpr good)]

/-- A port that admits its next good piece locks, or stays locked, and hands the piece to the Source Table. -/
theorem State.goodPiece_of_admits (h : (s.port p).admits) (piece : Piece) :
    s.goodPiece p piece = (s.updPort p Port.afterAdmitted).admitPiece p piece := by
  unfold State.goodPiece
  rcases h with line | ⟨line, run⟩
  · have settled : (s.port p).afterAdmitted = { s.port p with bad := 0 } := by simp [Port.afterAdmitted, line]
    simp only [line, State.updPort, settled]
  · have locks : (s.port p).afterAdmitted = { s.port p with line := .locked, good := 0, bad := 0 } := by
      simp [Port.afterAdmitted, line]
    have sixteenth : 16 ≤ (s.port p).good + 1 := by omega
    simp only [line, sixteenth, if_true, State.updPort, locks]

/-! ### A SOURCE is offered (R176 to R178) -/

theorem Notice.source_replaces (event : SourceEvent) (src : SourceId) (stream ports : BitVec 8) (count : FrameCount)
    (quality : BitVec 8) (bound : Bool) (q : Notice) :
    (Notice.source event src stream ports count quality bound).replaces q = false := by cases q <;> rfl

/-- A notice that may itself be evicted evicts none: it joins the queue where there is room. -/
theorem State.place_of_evictable {n : Notice} (h : n.evictable = true) (s : State) :
    s.place n = s.updLane (fun l => l.takes [n]) := by
  unfold State.place
  split
  · next room =>
    have fits : [n].take (16 - s.lane.queue.length) = [n] :=
      List.take_of_length_le (by simp only [Config.queueNotices, List.length_singleton] at room ⊢; omega)
    simp [State.updLane, Lane.takes, Lane.join, fits]
  · next full =>
    have none_fits : 16 - s.lane.queue.length = 0 := by simp only [Config.queueNotices] at full; omega
    simp [State.updLane, Lane.takes, none_fits]

/-- In RUNNING a SOURCE joins the queue where there is room, and is dropped where there is none (R41, R178). -/
theorem State.offerSource_of_running (running : s.node = .running) (e : SourceEntry) (event : SourceEvent) :
    s.offerSource e event = s.updLane (fun l => l.takes [e.notice event]) := by
  have on_lane : s.onLane = true := by simp [State.onLane, running]
  have replaces_none : ¬ s.lane.openNotices.any (e.notice event).replaces = true := by
    simp [SourceEntry.notice, Notice.source_replaces]
  unfold State.offerSource State.offer
  rw [if_pos running, if_pos on_lane, if_neg replaces_none]
  exact State.place_of_evictable rfl s

/-! ### The source is learned, or the piece is counted (R38) -/

theorem State.entry?_eq_none_iff (s : State) (src : SourceId) (stream : BitVec 8) :
    s.entry? src stream = none ↔ ∀ e ∈ s.sources, ¬ (e.source = src ∧ e.stream = stream) := by
  simp [State.entry?]

/-- The Source Table learns in RUNNING only (R35). -/
theorem State.admitPiece_of_unknown (running : s.node = .running)
    (unknown : s.entry? piece.source piece.stream = none) (p : PortNo) :
    s.admitPiece p piece = s.learn p piece := by
  rw [State.admitPiece, if_pos running, unknown]

/-- The entry of a source that is learned at a port (R36, R38). -/
def learnedEntry (t : Time) (p : PortNo) (piece : Piece) : SourceEntry :=
  { source := piece.source, stream := piece.stream, ports := 1#8 <<< p.val, lastCount := piece.count, lastHeard := t,
    quality := piece.quality, bound := none }

theorem State.learn_of_room (running : s.node = .running) (room : s.sources.length < 64) (p : PortNo) (piece : Piece) :
    s.learn p piece =
      { s with
        sources := s.sources ++ [learnedEntry s.now p piece]
        lane := s.lane.takes [(learnedEntry s.now p piece).notice .new] } := by
  have learns : s.learn p piece = { s with sources := s.sources ++ [learnedEntry s.now p piece] }.offerSource
      (learnedEntry s.now p piece) .new := by
    unfold State.learn learnedEntry
    rw [← portBit_eq_shift]
    exact if_pos room
  rw [learns, State.offerSource_of_running]
  · rfl
  · exact running

theorem State.learn_of_full (full : 64 ≤ s.sources.length) (p : PortNo) (piece : Piece) :
    s.learn p piece = s.updCounters (fun c => { c with learnDrop := min 65535 (c.learnDrop + 1) }) := by
  unfold State.learn
  exact if_neg (Nat.not_lt.mpr full)

/-- Settles O6: the admitting port hands the piece to the Source Table, which has no entry for it and learns the source, or
counts the piece. -/
theorem pieceLearned : Obligations.PieceLearned := by
  intro c t p piece s brings admits running unknown
  let u := (s.atTime t).updPort p Port.afterAdmitted
  have no_entry : u.entry? piece.source piece.stream = none := (u.entry?_eq_none_iff _ _).mpr unknown
  have learns : exec c s = .next (u.learn p piece) := by
    rw [exec_of_bringsGood brings, State.goodPiece_of_admits (s := s.atTime t) admits,
      State.admitPiece_of_unknown (s := u) running no_entry]
  constructor
  · intro room
    rw [learns, State.learn_of_room (s := u) running room]
    rfl
  · intro full
    rw [learns, State.learn_of_full (s := u) full]
    rfl

end Sys2Proof.Machine
end

section
/-! The start positions of consecutive deltas and the spans between them (R71 to R74).

What the rules say of a delta turns on one case split, whether the map rises into it. The one fact of arithmetic is that the
map rises by at most 1 after a step at which it does not rise: then its ratio is below 1. -/

namespace Sys2Proof.Machine

variable {t : Terms} {d d' p n : Nat}

/-! ### The map (R71) -/

theorem mapOf_zero (t : Terms) : mapOf t 0 = 0 := by simp [mapOf]

theorem mapOf_eq_mul_div (t : Terms) (d : Nat) : mapOf t d = d * (t.hn * t.fd) / (t.hd * t.fn) := by
  rw [mapOf, Nat.mul_assoc]

theorem mapOf_mono (t : Terms) : Monotone (mapOf t) := by
  intro d d' le
  rw [mapOf_eq_mul_div, mapOf_eq_mul_div]
  exact Nat.div_le_div_right (Nat.mul_le_mul_right _ le)

theorem mapOf_le_succ (t : Terms) (d : Nat) : mapOf t d ≤ mapOf t (d + 1) := mapOf_mono t d.le_succ

/-- Two numbers with one quotient differ by less than the divisor. -/
theorem lt_of_add_div_eq {x a m : Nat} (pos : 0 < m) (same : (x + a) / m = x / m) : a < m := by
  by_contra! large
  have rises : x / m + 1 ≤ (x + a) / m := by
    rw [← Nat.add_div_right x pos]
    exact Nat.div_le_div_right (Nat.add_le_add_left large x)
  omega

/-- Where the map does not rise into a delta its ratio is below 1, so it rises by at most 1 into the next. -/
theorem mapOf_le_succ_of_flat (flat : mapOf t d = mapOf t (d + 1)) : mapOf t (d + 2) ≤ mapOf t (d + 1) + 1 := by
  rcases Nat.eq_zero_or_pos (t.hd * t.fn) with zero | pos
  · simp [mapOf_eq_mul_div, zero]
  · have ratio_below_one : t.hn * t.fd < t.hd * t.fn := by
      refine lt_of_add_div_eq (x := d * (t.hn * t.fd)) pos ?_
      rw [← Nat.succ_mul, ← mapOf_eq_mul_div, ← mapOf_eq_mul_div]
      exact flat.symm
    calc mapOf t (d + 2)
        = ((d + 1) * (t.hn * t.fd) + t.hn * t.fd) / (t.hd * t.fn) := by rw [mapOf_eq_mul_div, ← Nat.succ_mul]
      _ ≤ ((d + 1) * (t.hn * t.fd) + t.hd * t.fn) / (t.hd * t.fn) :=
          Nat.div_le_div_right (Nat.add_le_add_left ratio_below_one.le _)
      _ = mapOf t (d + 1) + 1 := by rw [Nat.add_div_right _ pos, mapOf_eq_mul_div]

/-! ### Start positions (R72) -/

theorem startOf_zero (t : Terms) : startOf t 0 = 0 := by simp [startOf, mapOf_zero]

theorem startOf_succ_of_rise (rise : mapOf t d < mapOf t (d + 1)) : startOf t (d + 1) = mapOf t (d + 1) := by
  simp [startOf, rise]

theorem startOf_succ_of_flat (flat : mapOf t d = mapOf t (d + 1)) : startOf t (d + 1) = mapOf t (d + 1) + 1 := by
  simp [startOf, flat]

/-- The span of a delta ends above its map (R73). -/
theorem mapOf_lt_startOf_succ (t : Terms) (d : Nat) : mapOf t d < startOf t (d + 1) := by
  rcases (mapOf_le_succ t d).lt_or_eq with rise | flat
  · rwa [startOf_succ_of_rise rise]
  · rw [startOf_succ_of_flat flat, flat]
    exact Nat.lt_succ_self _

/-- The delta after a drop starts where the drop does. -/
theorem startOf_add_two_of_flat (flat : mapOf t d = mapOf t (d + 1)) : startOf t (d + 2) = mapOf t (d + 1) + 1 := by
  have at_most_one := mapOf_le_succ_of_flat flat
  rcases (mapOf_le_succ t (d + 1)).lt_or_eq with rise | flat_again
  · rw [startOf_succ_of_rise rise]
    exact at_most_one.antisymm rise
  · rw [startOf_succ_of_flat flat_again, flat_again]

/-- The three cases of a delta: the anchor and a delta that the map rises into have a span, a drop has none (R72, R73). -/
theorem startOf_span_cases (t : Terms) (d : Nat) :
    (¬ (1 ≤ d ∧ mapOf t (d - 1) = mapOf t d) ∧ startOf t d < startOf t (d + 1)) ∨
      ((1 ≤ d ∧ mapOf t (d - 1) = mapOf t d) ∧ startOf t d = startOf t (d + 1)) := by
  cases d with
  | zero =>
    refine .inl ⟨by simp, ?_⟩
    rw [startOf_zero]
    exact Nat.zero_lt_of_lt (mapOf_lt_startOf_succ t 0)
  | succ d =>
    rcases (mapOf_le_succ t d).lt_or_eq with rise | flat
    · refine .inl ⟨fun drop => rise.ne drop.2, ?_⟩
      rw [startOf_succ_of_rise rise]
      exact mapOf_lt_startOf_succ t (d + 1)
    · refine .inr ⟨⟨d.succ_pos, flat⟩, ?_⟩
      rw [startOf_succ_of_flat flat, startOf_add_two_of_flat flat]

theorem startOf_le_succ (t : Terms) (d : Nat) : startOf t d ≤ startOf t (d + 1) := by
  rcases startOf_span_cases t d with ⟨_, nonempty⟩ | ⟨_, empty⟩
  · exact nonempty.le
  · exact empty.le

theorem startOf_eq_succ_iff (t : Terms) (d : Nat) :
    startOf t d = startOf t (d + 1) ↔ 1 ≤ d ∧ mapOf t (d - 1) = mapOf t d := by
  rcases startOf_span_cases t d with ⟨not_drop, nonempty⟩ | ⟨drop, empty⟩
  · exact iff_of_false nonempty.ne not_drop
  · exact iff_of_true empty drop

theorem startOf_mono (t : Terms) : Monotone (startOf t) := monotone_nat_of_le_succ (startOf_le_succ t)

/-! ### Spans tile the positions (R74) -/

theorem exists_span_of_lt_startOf (below : p < startOf t n) : ∃ d < n, startOf t d ≤ p ∧ p < startOf t (d + 1) := by
  induction n with
  | zero => simp [startOf_zero] at below
  | succ n ih =>
    rcases Nat.lt_or_ge p (startOf t n) with earlier | here
    · obtain ⟨d, lt, span⟩ := ih earlier
      exact ⟨d, Nat.lt_succ_of_lt lt, span⟩
    · exact ⟨n, n.lt_succ_self, here, below⟩

/-- A delta whose span starts at or below a position is no higher than one whose span ends above it. -/
theorem le_of_startOf_le_of_lt (starts : startOf t d ≤ p) (ends : p < startOf t (d' + 1)) : d ≤ d' :=
  Nat.le_of_lt_succ ((startOf_mono t).reflect_lt (starts.trans_lt ends))

/-- Settles O59: the case split on whether the map rises into a delta gives the order of the start positions and the empty
spans, and the order gives the tiling. -/
theorem spansTile : Obligations.SpansTile := by
  intro t
  refine ⟨startOf_zero t, startOf_le_succ t, fun _ => rfl, startOf_eq_succ_iff t, ?_, fun _ _ => rfl⟩
  intro p below
  obtain ⟨d, lt, starts, ends⟩ := exists_span_of_lt_startOf below
  refine ⟨d, lt, starts, ends, ?_⟩
  intro d' _ starts' ends'
  exact le_antisymm (le_of_startOf_le_of_lt starts' ends) (le_of_startOf_le_of_lt starts ends')

end Sys2Proof.Machine
end

section
/-! The credit of the meters at a millisecond tick (R84): what one binding's record takes, and that a fold of one change over
distinct bindings makes that change once in the record of each of them and touches nothing else. -/

namespace Sys2Proof.Machine

/-! ### One change of several records -/

theorem State.updBinding_of_fixed {s : State} {b : BindingNo} {f : Binding → Binding} (h : f (s.binding b) = s.binding b) :
    s.updBinding b f = s := by
  have same : s.bindings.set b (s.binding b) = s.bindings := Vector.set_getElem_self ..
  rw [State.updBinding, h, same]

theorem foldl_updBinding_binding (f : Binding → Binding) {l : List BindingNo} (distinct : l.Nodup) (s : State)
    (x : BindingNo) :
    (l.foldl (fun s b => s.updBinding b f) s).binding x = if x ∈ l then f (s.binding x) else s.binding x := by
  induction l generalizing s with
  | nil => simp
  | cons b bs ih =>
    obtain ⟨b_not_mem, distinct'⟩ := List.nodup_cons.mp distinct
    rw [List.foldl_cons, ih distinct', State.binding_updBinding]
    by_cases here : x = b
    · subst here; simp [b_not_mem]
    · simp [here]

theorem foldl_updBinding_frame (f : Binding → Binding) (l : List BindingNo) (s : State) :
    l.foldl (fun s b => s.updBinding b f) s =
      { s with bindings := (l.foldl (fun s b => s.updBinding b f) s).bindings } := by
  induction l generalizing s with
  | nil => rfl
  | cons b bs ih => exact ih (s.updBinding b f)

theorem State.mem_activeBindings_iff (s : State) (b : BindingNo) :
    b ∈ s.activeBindings ↔ (s.binding b).state.active = true := by
  simp [State.activeBindings, State.isActive, mem_allBindings]

theorem State.nodup_activeBindings (s : State) : s.activeBindings.Nodup := nodup_allBindings.filter _

/-! ### The credit of one meter (R84) -/

/-- A record after a millisecond's credit; a meter with rate 0 is off (R86). -/
def Binding.credited (r : Binding) : Binding :=
  if r.terms.rate = 0 then r
  else
    let buckets := creditOf r.terms.rate r.terms.cbs r.terms.ebs r.acct.committed r.acct.excess
    { r with acct := { r.acct with committed := buckets.1, excess := buckets.2 } }

/-- The two caps of R84 case by case: an excess bucket within its size stays as it is where the committed one holds all. -/
theorem creditOf_eq {ebs x : Nat} (bounded : x ≤ ebs) (rate cbs c : Nat) :
    creditOf rate cbs ebs c x =
      (if cbs < c + rate then cbs else c + rate,
       if cbs < c + rate then if ebs < x + (c + rate - cbs) then ebs else x + (c + rate - cbs) else x) := by
  unfold creditOf
  by_cases overflow : cbs < c + rate
  · rw [if_pos overflow, if_pos overflow, Nat.min_eq_left overflow.le]
    split <;> congr 1 <;> omega
  · rw [if_neg overflow, if_neg overflow]
    congr 1 <;> omega

/-! ### The credit of all meters -/

theorem State.creditAll_eq_foldl (s : State) :
    s.creditAll = s.activeBindings.foldl (fun s b => s.updBinding b Binding.credited) s := by
  unfold State.creditAll
  congr 1
  funext s b
  split
  · next off =>
    have fixed : (s.binding b).credited = s.binding b := if_pos off
    exact (State.updBinding_of_fixed fixed).symm
  · next on => simp only [State.updBinding, Binding.credited, if_neg on]

theorem State.creditAll_frame (s : State) : s.creditAll = { s with bindings := s.creditAll.bindings } := by
  rw [State.creditAll_eq_foldl]
  exact foldl_updBinding_frame ..

theorem State.creditAll_binding (s : State) (b : BindingNo) :
    s.creditAll.binding b = if (s.binding b).state.active = true then (s.binding b).credited else s.binding b := by
  rw [State.creditAll_eq_foldl, foldl_updBinding_binding _ s.nodup_activeBindings]
  simp only [State.mem_activeBindings_iff]

theorem exec_meterCredit_of_tick {t : Time} (tick : t.toNat % 1000 = 0) (s : State) :
    exec (.meterCredit t) s = .next (s.atTime t).creditAll := by
  have arm : exec (.meterCredit t) s = execMeterCredit t s := rfl
  have isTick : msTick t = true := decide_eq_true tick
  rw [arm, execMeterCredit, if_pos isTick]

/-- Settles O17: the tick credits the active bindings, each of them once, and a credit is R84's where the excess bucket lies
within its size. -/
theorem meterCredit : Obligations.MeterCredit := by
  intro t s tick bounded
  refine ⟨(s.atTime t).creditAll, exec_meterCredit_of_tick tick s, (s.atTime t).creditAll_frame, ?_⟩
  rintro b r rfl c x rfl rfl
  rw [State.creditAll_binding, State.binding_atTime, ite_and]
  by_cases active : (s.binding b).state.active = true
  · obtain ⟨-, excess_le⟩ := bounded b
    rw [if_pos active, if_pos active, Binding.credited, creditOf_eq excess_le, ite_not]
  · rw [if_neg active, if_neg active]

end Sys2Proof.Machine
end

section
/-! The insertion into an extent map (R107, R108), pass by pass: what painting, merging and trimming do to the kind of a
position and to the order of the map. -/

namespace Sys2Proof.Machine

/-! ### Maps in order from a position on -/

/-- The extents of a map are not empty, stand in increasing order from `lo` on and do not overlap. Painting keeps this much
of `mapOrdered`; two extents of one kind may still touch. -/
def orderedFrom : Nat → List Extent → Prop
  | _, [] => True
  | lo, x :: xs => lo ≤ x.start ∧ x.start < x.stop ∧ orderedFrom x.stop xs

theorem orderedFrom_of_le {lo lo' : Nat} {m : List Extent} (le : lo ≤ lo') (h : orderedFrom lo' m) : orderedFrom lo m := by
  cases m with
  | nil => trivial
  | cons x xs =>
    obtain ⟨starts, nonempty, rest⟩ := h
    exact ⟨by omega, nonempty, rest⟩

theorem kindAt_of_lt_orderedFrom {lo p : Nat} {m : List Extent} (h : orderedFrom lo m) (lt : p < lo) :
    kindAt m p = none := by
  induction m generalizing lo with
  | nil => rfl
  | cons x xs ih =>
    obtain ⟨starts, nonempty, rest⟩ := h
    rw [kindAt, if_neg (by omega)]
    exact ih rest (by omega)

theorem orderedFrom_start_of_mapOrdered {x : Extent} {m : List Extent} (h : mapOrdered (x :: m)) :
    orderedFrom x.start (x :: m) := by
  induction m generalizing x with
  | nil => exact ⟨le_refl _, h, trivial⟩
  | cons y ys ih =>
    obtain ⟨nonempty, apart, -, rest⟩ := h
    exact ⟨le_refl _, nonempty, orderedFrom_of_le apart (ih rest)⟩

theorem orderedFrom_zero_of_mapOrdered {m : List Extent} (h : mapOrdered m) : orderedFrom 0 m := by
  cases m with
  | nil => trivial
  | cons x xs => exact orderedFrom_of_le (Nat.zero_le _) (orderedFrom_start_of_mapOrdered h)

/-! ### One extent in front of a map -/

theorem kindAt_extentOf_append (a b : Nat) (k : ExtentKind) (m : List Extent) (p : Nat) :
    kindAt (extentOf a b k ++ m) p = if a ≤ p ∧ p < b then some k else kindAt m p := by
  unfold extentOf
  split
  · rfl
  · rw [if_neg (by omega), List.nil_append]

/-- An extent may be put in front of a map that starts at its end or behind it, and an empty one changes nothing. -/
theorem orderedFrom_extentOf_append {lo a b hi : Nat} {k : ExtentKind} {m : List Extent} (starts : a < b → lo ≤ a)
    (lo_le : lo ≤ hi) (ends : b ≤ hi) (h : orderedFrom hi m) : orderedFrom lo (extentOf a b k ++ m) := by
  unfold extentOf
  split
  · next nonempty => exact ⟨starts nonempty, nonempty, orderedFrom_of_le ends h⟩
  · exact orderedFrom_of_le lo_le h

/-! ### Painting (R107) -/

/-- What a position inside the inserted range holds after the insertion of `k`, from what it held before: R107's precedence. -/
def ExtentKind.takes (k : ExtentKind) (old : Option ExtentKind) : Option ExtentKind :=
  match old with
  | none => some k
  | some x => if x.rank < k.rank then some k else some x

theorem ExtentKind.takes_some (k x : ExtentKind) : k.takes (some x) = some (if x.rank < k.rank then k else x) := by
  rw [takes]
  split <;> rfl

theorem paint_orderedFrom (k : ExtentKind) {lo a b : Nat} {m : List Extent} (h : orderedFrom lo m) (lo_le : lo ≤ a) :
    orderedFrom lo (paint k a b m) := by
  induction m generalizing lo a with
  | nil =>
    rw [paint, ← List.append_nil (extentOf a b k)]
    exact orderedFrom_extentOf_append (hi := max lo b) (fun _ => lo_le) (by omega) (by omega) trivial
  | cons x xs ih =>
    have whole := h
    obtain ⟨starts, nonempty, rest⟩ := h
    unfold paint
    split
    next => exact whole
    split
    next behind => exact ⟨starts, nonempty, ih rest behind⟩
    split
    next ahead => exact ⟨lo_le, show a < b by omega, ahead, nonempty, rest⟩
    next =>
      have tail : orderedFrom (min b x.stop) (if b < x.stop then ⟨b, x.stop, x.kind⟩ :: xs else paint k x.stop b xs) := by
        split
        · next inside => exact ⟨min_le_left b x.stop, inside, rest⟩
        · exact orderedFrom_of_le (by omega) (ih rest (le_refl _))
      simp only [List.append_assoc]
      exact orderedFrom_extentOf_append (fun _ => starts) lo_le (le_refl a) <|
        orderedFrom_extentOf_append (fun _ => le_refl a) (le_max_left a x.start) (le_max_right a x.start) <|
        orderedFrom_extentOf_append (fun _ => le_refl _) (by omega) (le_refl _) tail

theorem kindAt_paint (k : ExtentKind) {lo : Nat} {m : List Extent} (h : orderedFrom lo m) (a b p : Nat) :
    kindAt (paint k a b m) p = if a ≤ p ∧ p < b then k.takes (kindAt m p) else kindAt m p := by
  induction m generalizing lo a with
  | nil =>
    rw [paint, ← List.append_nil (extentOf a b k)]
    exact kindAt_extentOf_append a b k [] p
  | cons x xs ih =>
    obtain ⟨starts, nonempty, rest⟩ := h
    have before : p < x.stop → kindAt xs p = none := kindAt_of_lt_orderedFrom rest
    unfold paint
    split
    next => rw [if_neg (by omega)]
    split
    next behind =>
      rw [kindAt, kindAt, ih rest]
      by_cases inside : x.start ≤ p ∧ p < x.stop
      · rw [if_pos inside, if_neg (by omega), if_pos inside]
      · rw [if_neg inside, if_neg inside]
    split
    next ahead =>
      rw [kindAt]
      by_cases inside : a ≤ p ∧ p < b
      · rw [if_pos inside, if_pos inside, kindAt, if_neg (by omega), before (by omega)]
        rfl
      · rw [if_neg inside, if_neg inside]
    next =>
      have tail : kindAt (if b < x.stop then ⟨b, x.stop, x.kind⟩ :: xs else paint k x.stop b xs) p =
          if b ≤ p ∧ p < x.stop then some x.kind
          else if x.stop ≤ p ∧ p < b then k.takes (kindAt xs p) else kindAt xs p := by
        split
        · rw [kindAt, if_neg (show ¬ (x.stop ≤ p ∧ p < b) by omega)]
        · rw [ih rest, if_neg (show ¬ (b ≤ p ∧ p < x.stop) by omega)]
      simp only [List.append_assoc, kindAt_extentOf_append, tail, kindAt]
      by_cases inside : x.start ≤ p ∧ p < x.stop
      · rw [if_pos inside, ExtentKind.takes_some]
        grind
      · rw [if_neg inside]
        by_cases below : p < x.stop
        · rw [before below, ExtentKind.takes]
          grind
        · grind

/-! ### Merging (R107) -/

theorem mergeExtents_orderedFrom {lo : Nat} {m : List Extent} (h : orderedFrom lo m) : orderedFrom lo (mergeExtents m) := by
  induction m generalizing lo with
  | nil => trivial
  | cons x xs ih =>
    obtain ⟨starts, nonempty, rest⟩ := h
    have merged := ih rest
    unfold mergeExtents
    split
    · exact ⟨starts, nonempty, trivial⟩
    · next y ys tail =>
      rw [tail] at merged
      split
      · obtain ⟨apart, nonempty', rest'⟩ := merged
        exact ⟨starts, show x.start < y.stop by omega, rest'⟩
      · exact ⟨starts, nonempty, merged⟩

theorem kindAt_mergeExtents {lo : Nat} {m : List Extent} (h : orderedFrom lo m) (p : Nat) :
    kindAt (mergeExtents m) p = kindAt m p := by
  induction m generalizing lo with
  | nil => rfl
  | cons x xs ih =>
    obtain ⟨-, nonempty, rest⟩ := h
    have merged := mergeExtents_orderedFrom rest
    rw [mergeExtents, kindAt, ← ih rest]
    split
    · next tail => rw [tail]; rfl
    · next y ys tail =>
      rw [tail] at merged ⊢
      obtain ⟨-, nonempty', -⟩ := merged
      split
      · next touch =>
        obtain ⟨same, meets⟩ := touch
        simp only [kindAt, ← same]
        grind
      · rfl

/-- The first extent of a map may grow downwards: what `mapOrdered` asks of it and the next is about its end. -/
theorem mapOrdered_of_same_stop {x y : Extent} {m : List Extent} (h : mapOrdered (y :: m)) (nonempty : x.start < x.stop)
    (stop : x.stop = y.stop) (kind : x.kind = y.kind) : mapOrdered (x :: m) := by
  cases m with
  | nil => exact nonempty
  | cons z zs =>
    obtain ⟨-, apart, unlike, rest⟩ := h
    exact ⟨nonempty, stop ▸ apart, stop ▸ kind ▸ unlike, rest⟩

theorem mergeExtents_mapOrdered {lo : Nat} {m : List Extent} (h : orderedFrom lo m) : mapOrdered (mergeExtents m) := by
  induction m generalizing lo with
  | nil => trivial
  | cons x xs ih =>
    obtain ⟨-, nonempty, rest⟩ := h
    have merged := mergeExtents_orderedFrom rest
    have ordered := ih rest
    unfold mergeExtents
    split
    · exact nonempty
    · next y ys tail =>
      rw [tail] at merged ordered
      obtain ⟨apart, nonempty', -⟩ := merged
      split
      · next touch =>
        obtain ⟨same, -⟩ := touch
        exact mapOrdered_of_same_stop ordered (show x.start < y.stop by omega) rfl same
      · next unlike => exact ⟨nonempty, apart, fun meets same => unlike ⟨same, meets⟩, ordered⟩

/-! ### Trimming (R108) -/

theorem mapOrdered_drop {m : List Extent} (h : mapOrdered m) (n : Nat) : mapOrdered (m.drop n) := by
  induction n generalizing m with
  | zero => exact h
  | succ n ih =>
    cases m with
    | nil => exact h
    | cons x xs => exact ih (mapOrdered_tail h)

/-- Removing extents from the front forgets the positions below some cut, and no other. -/
theorem exists_cut_kindAt_drop {lo : Nat} {m : List Extent} (h : orderedFrom lo m) (n : Nat) :
    ∃ cut, lo ≤ cut ∧ ∀ p, kindAt (m.drop n) p = if p < cut then none else kindAt m p := by
  induction n generalizing lo m with
  | zero =>
    refine ⟨lo, le_refl lo, fun p => ?_⟩
    rw [List.drop_zero]
    split
    · next below => exact kindAt_of_lt_orderedFrom h below
    · rfl
  | succ n ih =>
    cases m with
    | nil => exact ⟨lo, le_refl lo, fun p => by rw [List.drop_nil, kindAt, ite_self]⟩
    | cons x xs =>
      obtain ⟨starts, nonempty, rest⟩ := h
      obtain ⟨cut, le_cut, kinds⟩ := ih rest
      refine ⟨cut, by omega, fun p => ?_⟩
      rw [List.drop_succ_cons, kinds]
      split
      · rfl
      · rw [kindAt, if_neg (by omega)]

theorem length_trimExtents (m : List Extent) : (trimExtents m).length = min m.length 64 := by
  rw [trimExtents, Config.mapExtents, List.length_drop]
  omega

/-- A map of at most 64 extents is left whole. -/
theorem exists_cut_kindAt_trimExtents {m : List Extent} (h : orderedFrom 0 m) :
    ∃ cut, (cut = 0 ∨ (trimExtents m).length = 64) ∧
      ∀ p, kindAt (trimExtents m) p = if p < cut then none else kindAt m p := by
  by_cases fits : m.length ≤ 64
  · have whole : trimExtents m = m := by
      rw [trimExtents, Config.mapExtents, Nat.sub_eq_zero_of_le fits, List.drop_zero]
    exact ⟨0, .inl rfl, fun p => by rw [whole, if_neg (Nat.not_lt_zero p)]⟩
  · obtain ⟨cut, -, kinds⟩ := exists_cut_kindAt_drop h (m.length - Config.mapExtents)
    have full : (trimExtents m).length = 64 := by rw [length_trimExtents]; omega
    exact ⟨cut, .inr full, kinds⟩

/-! ### The insertion -/

/-- Settles O60: painting decides the kind of each position, merging gives the map its one form and changes no kind, and
trimming forgets the lowest positions of a map with more than 64 extents. -/
theorem insertionKeepsPrecedence : Obligations.InsertionKeepsPrecedence := by
  rintro m m' e a b k ordered small rfl
  rw [insertInto]
  split
  · next nonempty =>
    have painted : orderedFrom 0 (paint k a (min b e) m) :=
      paint_orderedFrom k (orderedFrom_zero_of_mapOrdered ordered) (Nat.zero_le a)
    obtain ⟨cut, full, kinds⟩ := exists_cut_kindAt_trimExtents (mergeExtents_orderedFrom painted)
    refine ⟨mapOrdered_drop (mergeExtents_mapOrdered painted) _, by rw [length_trimExtents]; omega, cut, full, fun p => ?_⟩
    rw [kinds, kindAt_mergeExtents painted, kindAt_paint k (orderedFrom_zero_of_mapOrdered ordered)]
    simp only [lt_min_iff]
    rfl
  · next empty =>
    refine ⟨ordered, small, 0, .inl rfl, fun p => ?_⟩
    rw [if_neg (Nat.not_lt_zero p), if_neg (by omega)]

end Sys2Proof.Machine
end

section
/-! The occupancy average of the Browse Unit (R158): one update as a division that truncates toward zero, and the tick that
makes it. -/

namespace Sys2Proof.Machine

/-- R158's average is a natural number, and its division is one of integers: the difference from the cells in use has a
sign. -/
theorem approach_eq_toNat (m x k : Nat) : approach m x k = ((m : Int) + Int.tdiv ((x : Int) - m) k).toNat := by
  rw [← approach_eq, Int.toNat_natCast]

/-- A pool whose free cells are within it has the rest of its cells in use (R62). -/
theorem State.updateOccupancy_eq {s : State} (free_le : s.freeCells ≤ 16384) :
    s.updateOccupancy = { s with browse := { s.browse with
      occupancy := ((s.browse.occupancy : Int) +
        Int.tdiv ((16384 - (s.freeCells : Int)) - s.browse.occupancy) 16).toNat } } := by
  have inUse : ((Config.poolCells - s.freeCells : Nat) : Int) = 16384 - (s.freeCells : Int) := by
    rw [Config.poolCells]
    omega
  rw [State.updateOccupancy, approach_eq_toNat, inUse]
  rfl

theorem exec_occupancyUpdate_of_tick {t : Time} (tick : t.toNat % 1000 = 0) (s : State) :
    exec (.occupancyUpdate t) s = .next (s.atTime t).updateOccupancy := by
  have arm : exec (.occupancyUpdate t) s = execOccupancyUpdate t s := rfl
  have isTick : msTick t = true := decide_eq_true tick
  rw [arm, execOccupancyUpdate, if_pos isTick]

/-- Settles O29: the tick updates the average in every node state and leaves the rest; the band is read off the average. -/
theorem occupancyFollows : Obligations.OccupancyFollows := by
  rintro t s a tick free_le rfl
  refine ⟨?_, rfl⟩
  have free_le_at : (s.atTime t).freeCells ≤ 16384 := free_le
  rw [exec_occupancyUpdate_of_tick tick, State.updateOccupancy_eq free_le_at]
  rfl

end Sys2Proof.Machine
end

section
/-! What every command keeps (R23, R42, R58, R62, R63, R76, R88, R89, R99, R108, R122, R135, R136, R146, R159, R167, R168,
R170, R175, R191, R195).

Each law speaks of one part of the state. `State.Keeps s u` says that `u` keeps every law that `s` meets; it is reflexive and
transitive, so what a command keeps follows from what each of its updates keeps. First come the updates of each part, then
the shared operations, one lemma each, in the order of the model. -/

namespace Sys2Proof.Machine

/-! ### The laws, part by part -/

/-- The ends, the lists and the counters of a binding are within their bounds. -/
def Binding.sized (r : Binding) : Prop := r.endsAgree ∧ r.coord.bounded ∧ r.countersBounded

/-- A record keeps the laws of one binding that another meets. -/
structure Binding.Keeps (r r' : Binding) : Prop where
  meter : r.meterBounded → r'.meterBounded
  sizes : r.sized → r'.sized

/-- The counters that belong to no binding stand at 65535 or below (R34, R195). -/
def State.talliesBounded (s : State) : Prop :=
  (∀ p : PortNo, (s.port p).badPieces ≤ 65535 ∧ (s.port p).lockLosses ≤ 65535) ∧ ∀ x ∈ s.counters.list, x ≤ 65535

/-- A state keeps the laws that another meets. -/
structure State.KeepsLaws (s u : State) : Prop where
  pool     : s.poolWhole → u.poolWhole
  bindings : ∀ b, (s.binding b).Keeps (u.binding b)
  tallies  : s.talliesBounded → u.talliesBounded
  lane     : s.laneBounded → u.laneBounded
  queues   : s.queuesLawful → u.queuesLawful
  fltn     : s.fltnAgrees → u.fltnAgrees

/-- A state keeps the laws that another meets, its clock and its waiting commands. -/
structure State.Keeps (s u : State) : Prop extends s.KeepsLaws u where
  now      : u.now = s.now
  pending  : u.pending = s.pending

theorem Binding.Keeps.refl (r : Binding) : r.Keeps r := ⟨id, id⟩

theorem State.KeepsLaws.refl (s : State) : s.KeepsLaws s := ⟨id, fun _ => .refl _, id, id, id, id⟩

theorem State.Keeps.refl (s : State) : s.Keeps s := ⟨.refl s, rfl, rfl⟩

theorem State.KeepsLaws.trans {s u v : State} (h : s.KeepsLaws u) (k : u.KeepsLaws v) : s.KeepsLaws v where
  pool := k.pool ∘ h.pool
  bindings b := ⟨(k.bindings b).meter ∘ (h.bindings b).meter, (k.bindings b).sizes ∘ (h.bindings b).sizes⟩
  tallies := k.tallies ∘ h.tallies
  lane := k.lane ∘ h.lane
  queues := k.queues ∘ h.queues
  fltn := k.fltn ∘ h.fltn

theorem State.Keeps.trans {s u v : State} (h : s.Keeps u) (k : u.Keeps v) : s.Keeps v :=
  ⟨h.toKeepsLaws.trans k.toKeepsLaws, k.now.trans h.now, k.pending.trans h.pending⟩

theorem State.Keeps.foldl {α : Type} {f : State → α → State} (h : ∀ (s : State) (x : α), s.Keeps (f s x)) (l : List α) (s : State) :
    s.Keeps (l.foldl f s) := by
  induction l generalizing s with
  | nil => exact .refl s
  | cons x xs ih => exact (h s x).trans (ih _)

/-! ### Updates of a binding -/

section Updates

variable (s : State) (b : BindingNo)

theorem State.keeps_updBinding {f : Binding → Binding} (h : (s.binding b).Keeps (f (s.binding b))) :
    s.Keeps (s.updBinding b f) where
  pool := id
  bindings x := by
    rw [State.binding_updBinding]
    split
    · next hx => exact hx ▸ h
    · exact .refl _
  tallies := id
  lane := id
  queues := id
  fltn := id
  now := rfl
  pending := rfl

/-- A change of the assembly state that leaves the window at its size. -/
theorem State.keeps_updAsm {f : Assembly → Assembly}
    (h : (s.binding b).asm.slots.length = Config.windowSlots → (f (s.binding b).asm).slots.length = Config.windowSlots) :
    s.Keeps (s.updAsm b f) :=
  s.keeps_updBinding b ⟨id, fun ⟨⟨ends, through, slots, history⟩, coord, counters⟩ =>
    ⟨⟨ends, through, h slots, history⟩, coord, counters⟩⟩

/-- A change of the coordination state that keeps its lists bounded and its own through below E. -/
theorem State.keeps_updCoord {f : Coordination → Coordination}
    (bounded : (s.binding b).coord.bounded → (f (s.binding b).coord).bounded)
    (through : (s.binding b).coord.ownThrough ≤ (s.binding b).effEnd →
      (f (s.binding b).coord).ownThrough ≤ (s.binding b).effEnd) : s.Keeps (s.updCoord b f) :=
  s.keeps_updBinding b ⟨id, fun ⟨⟨ends, old, slots, history⟩, coord, counters⟩ =>
    ⟨⟨ends, through old, slots, history⟩, bounded coord, counters⟩⟩

theorem Binding.countersBounded_raise {r : Binding} (h : r.countersBounded) (c : BindingCounter) (k : Nat) :
    ({ r with counters := r.counters.raise k c } : Binding).countersBounded := by
  simp only [Binding.countersBounded, BindingCounters.list, List.forall_mem_cons] at h ⊢
  cases c <;> simp [BindingCounters.raise, bump_le, h]

theorem State.keeps_count (c : BindingCounter) (k : Nat) : s.Keeps (s.count b c k) := by
  unfold State.count
  split
  · exact s.keeps_updBinding b ⟨id, fun ⟨ends, coord, counters⟩ => ⟨ends, coord, Binding.countersBounded_raise counters c k⟩⟩
  · exact .refl s

/-! ### The frame table and the pool (R62 to R67) -/

/-- A sum over a table from which one record has been taken out. -/
theorem sum_cells_of_mem {l : List FrameRecord} (sorted : l.Pairwise (fun f g => f.index < g.index)) {f : FrameRecord}
    (hf : f ∈ l) :
    (l.map (fun x => x.cells.length)).sum =
      f.cells.length + ((l.filter (fun x => x.index ≠ f.index)).map (fun x => x.cells.length)).sum := by
  induction l with
  | nil => cases hf
  | cons x xs ih =>
    obtain ⟨above, rest⟩ := List.pairwise_cons.mp sorted
    obtain rfl | later := List.mem_cons.mp hf
    · have others : xs.filter (fun y => y.index ≠ f.index) = xs :=
        List.filter_eq_self.mpr fun y hy => by simpa using (above y hy).ne'
      rw [List.filter_cons_of_neg (by simp), others, List.map_cons, List.sum_cons]
    · have apart : x.index ≠ f.index := (above f later).ne
      simp [apart, ih rest later]
      omega

theorem State.frame?_some {s : State} {i : Nat} {f : FrameRecord} (h : s.frame? i = some f) :
    f ∈ s.frames ∧ f.index = i :=
  ⟨List.mem_of_find?_eq_some h, by simpa using List.find?_some h⟩

/-- A change of the frame table and the free list alone. -/
theorem State.keeps_frames (fr : List FrameRecord) (n : Nat)
    (h : s.poolWhole → ({ s with frames := fr, freeCells := n } : State).poolWhole) :
    s.Keeps { s with frames := fr, freeCells := n } :=
  ⟨⟨h, fun _ => .refl _, id, id, id, id⟩, rfl, rfl⟩

theorem State.keeps_freeFrame (i : Nat) : s.Keeps (s.freeFrame i) := by
  unfold State.freeFrame
  split
  · exact .refl s
  · next f hf =>
    refine s.keeps_frames _ _ fun ⟨whole, small, sorted⟩ => ?_
    obtain ⟨mem, rfl⟩ := State.frame?_some hf
    have split_sum := sum_cells_of_mem sorted mem
    refine ⟨?_, (List.length_filter_le _ _).trans small, sorted.filter _⟩
    simp only [State.heldCells] at whole ⊢
    omega

/-- A change of one record that leaves its index and its cells as they are. -/
theorem State.keeps_updFrame (i : Nat) {g : FrameRecord → FrameRecord} (index : ∀ f, (g f).index = f.index)
    (cells : ∀ f, (g f).cells = f.cells) : s.Keeps (s.updFrame i g) := by
  have same_index (f : FrameRecord) : (if f.index = i then g f else f).index = f.index := by split <;> simp [index]
  have same_cells (f : FrameRecord) : (if f.index = i then g f else f).cells = f.cells := by split <;> simp [cells]
  refine s.keeps_frames _ _ fun ⟨whole, small, sorted⟩ => ⟨?_, by simpa using small, ?_⟩
  · simpa [State.heldCells, Function.comp_def, same_cells] using whole
  · simpa [List.pairwise_map, same_index] using sorted

theorem State.keeps_releaseFrame (i : Nat) : s.Keeps (s.releaseFrame i) := by
  unfold State.releaseFrame
  split
  · exact .refl s
  · split
    · exact s.keeps_freeFrame i
    · exact s.keeps_updFrame i (fun _ => rfl) (fun _ => rfl)

theorem State.keeps_giveBack (i : Nat) : s.Keeps (s.giveBack i) := by
  unfold State.giveBack
  split
  · exact .refl s
  · split
    · exact s.keeps_freeFrame i
    · exact s.keeps_updFrame i (fun _ => rfl) (fun _ => rfl)

theorem State.keeps_giveBackOwn (i : Nat) : s.Keeps (s.giveBackOwn b i) := by
  obtain h | ⟨-, h⟩ := s.giveBackOwn_cases b i <;> rw [h]
  · exact .refl s
  · exact s.keeps_giveBack i

theorem le_freeIndex (n : Nat) (l : List FrameRecord) : n ≤ freeIndex n l := by
  induction l generalizing n with
  | nil => exact le_refl n
  | cons y ys ih =>
    unfold freeIndex
    split
    · exact (Nat.le_succ n).trans (ih (n + 1))
    · exact le_refl n

/-- A table in increasing order of index, from `n` on, has no record at the lowest index that is free. -/
theorem freeIndex_fresh {l : List FrameRecord} (sorted : l.Pairwise (fun f g => f.index < g.index)) {n : Nat}
    (from_n : ∀ x ∈ l, n ≤ x.index) : ∀ x ∈ l, x.index ≠ freeIndex n l := by
  induction l generalizing n with
  | nil => simp
  | cons y ys ih =>
    obtain ⟨above, rest⟩ := List.pairwise_cons.mp sorted
    have n_le : n ≤ y.index := from_n y List.mem_cons_self
    unfold freeIndex
    split
    · next here =>
      have beyond : ∀ x ∈ ys, n + 1 ≤ x.index := fun x hx => by have := above x hx; omega
      have after := le_freeIndex (n + 1) ys
      intro x hx
      obtain rfl | later := List.mem_cons.mp hx
      · omega
      · exact ih rest beyond x later
    · intro x hx
      obtain rfl | later := List.mem_cons.mp hx
      · assumption
      · have := above x later; omega

theorem insertFrame_sorted {l : List FrameRecord} (sorted : l.Pairwise (fun f g => f.index < g.index)) {f : FrameRecord}
    (fresh : ∀ x ∈ l, x.index ≠ f.index) : (insertFrame f l).Pairwise (fun f g => f.index < g.index) := by
  induction l with
  | nil => simp [insertFrame]
  | cons x xs ih =>
    obtain ⟨above, rest⟩ := List.pairwise_cons.mp sorted
    unfold insertFrame
    split
    · next below =>
      refine List.pairwise_cons.mpr ⟨fun y hy => ?_, sorted⟩
      obtain rfl | later := List.mem_cons.mp hy
      · exact below
      · exact below.trans (above y later)
    · next not_below =>
      have apart : x.index ≠ f.index := fresh x List.mem_cons_self
      refine List.pairwise_cons.mpr ⟨fun y hy => ?_, ih rest fun y hy => fresh y (List.mem_cons_of_mem x hy)⟩
      obtain rfl | later := List.mem_cons.mp ((insertFrame_perm f xs).mem_iff.mp hy)
      · omega
      · exact above y later

/-- A record without cells joins a table that has room, at its lowest free index (R50). -/
theorem State.keeps_insertFrame {f : FrameRecord} (index : f.index = freeIndex 0 s.frames) (no_cells : f.cells = [])
    (room : s.frames.length < Config.frameRecords) : s.Keeps { s with frames := insertFrame f s.frames } := by
  refine s.keeps_frames _ s.freeCells fun ⟨whole, small, sorted⟩ => ⟨?_, ?_, insertFrame_sorted sorted ?_⟩
  · simpa [State.heldCells, ((insertFrame_perm f s.frames).map _).sum_eq, no_cells] using whole
  · rw [(insertFrame_perm f s.frames).length_eq]
    exact room
  · exact index ▸ freeIndex_fresh sorted fun _ _ => Nat.zero_le _

/-- A free cell is taken by a record of the table (R51). -/
theorem State.keeps_takeCell {f g : FrameRecord} (hf : s.frame? f.index = some f) (index : g.index = f.index)
    (cells : g.cells.length = f.cells.length + 1) (free : s.freeCells ≠ 0) :
    s.Keeps ({ s with freeCells := s.freeCells - 1 }.updFrame f.index (fun _ => g)) := by
  refine s.keeps_frames _ _ fun ⟨whole, small, sorted⟩ => ?_
  obtain ⟨mem, -⟩ := State.frame?_some hf
  have same_index : ∀ x : FrameRecord, (if x.index = f.index then g else x).index = x.index := fun x => by
    split <;> simp [*]
  have sorted' : (s.frames.map (fun x => if x.index = f.index then g else x)).Pairwise (fun f g => f.index < g.index) := by
    simpa [List.pairwise_map, same_index] using sorted
  refine ⟨?_, by simpa using small, sorted'⟩
  have mem' : g ∈ s.frames.map (fun x => if x.index = f.index then g else x) :=
    List.mem_map.mpr ⟨f, mem, if_pos rfl⟩
  have others : (s.frames.map (fun x => if x.index = f.index then g else x)).filter (fun x => x.index ≠ f.index) =
      s.frames.filter (fun x => x.index ≠ f.index) := by
    rw [List.filter_map, show (fun x : FrameRecord => decide (x.index ≠ f.index)) ∘
      (fun x => if x.index = f.index then g else x) = fun x => decide (x.index ≠ f.index) from
        funext fun x => by simp [same_index]]
    exact (List.map_congr_left fun x hx => if_neg (by simpa using (List.mem_filter.mp hx).2)).trans (List.map_id _)
  have before := sum_cells_of_mem sorted mem
  have after := sum_cells_of_mem sorted' mem'
  rw [index, others] at after
  have held : ({ s with freeCells := s.freeCells - 1, frames := s.frames.map (fun x => if x.index = f.index then g else x) } :
    State).heldCells = s.heldCells + 1 := by
    simp only [State.heldCells, after, before, cells]
    omega
  change s.freeCells - 1 + State.heldCells { s with
    freeCells := s.freeCells - 1, frames := s.frames.map (fun x => if x.index = f.index then g else x) } = _
  rw [held]
  omega

/-! ### The lane (R166 to R182) -/

theorem State.keeps_updLane {f : Lane → Lane} (bounded : s.lane.bounded → (f s.lane).bounded)
    (lfsr : s.lane.lfsr ≠ 0 → (f s.lane).lfsr ≠ 0) : s.Keeps (s.updLane f) :=
  ⟨⟨id, fun _ => .refl _, id, fun ⟨l, own, thinning⟩ => ⟨bounded l, lfsr own, thinning⟩, id, id⟩, rfl, rfl⟩

/-- A change of the node counters that keeps them at 65535 or below, as raising some of them does. -/
theorem State.keeps_updCounters {f : NodeCounters → NodeCounters}
    (h : ∀ c : NodeCounters, (∀ x ∈ c.list, x ≤ 65535) → ∀ x ∈ (f c).list, x ≤ 65535 := by
      simp +contextual [NodeCounters.list, bump_le]) : s.Keeps (s.updCounters f) :=
  ⟨⟨id, fun _ => .refl _, fun ⟨ports, node⟩ => ⟨ports, h _ node⟩, id, id, id⟩, rfl, rfl⟩

theorem Lane.join_bounded {l : Lane} (room : l.queue.length < Config.queueNotices) (attempts : l.attempts < Config.maxCollisions)
    (n : Notice) : (l.join n).bounded := by
  refine ⟨?_, ?_, attempts⟩
  · simpa [Lane.join] using room
  · by_cases h : l.tx = .idle <;> simp [Lane.join, h]

theorem Lane.length_eraseP_of_any {l : List Notice} (h : l.any Notice.evictable) :
    (l.eraseP Notice.evictable).length = l.length - 1 := by
  obtain ⟨n, hn, evictable⟩ := List.any_eq_true.mp h
  exact List.length_eraseP_of_mem hn evictable

theorem Lane.evict_room {l : Lane} (h : l.bounded) (any : l.openNotices.any Notice.evictable) :
    l.evict.queue.length < Config.queueNotices ∧ l.evict.attempts < Config.maxCollisions := by
  obtain ⟨small, -, attempts⟩ := h
  have open_some : l.openNotices ≠ [] := by rintro none; simp [none] at any
  have queue_some : l.queue.length ≠ 0 := by
    intro none
    simp [Lane.openNotices, List.length_eq_zero_iff.mp none] at open_some
  unfold Lane.evict
  split
  · next sending =>
    have open_eq : l.openNotices = l.queue.drop 1 := if_pos sending
    have shorter := Lane.length_eraseP_of_any any
    rw [open_eq] at shorter open_some
    have := List.length_pos_iff.mpr open_some
    refine ⟨?_, attempts⟩
    simp only [Lane.locked, sending, if_true, List.length_append, open_eq, shorter, List.length_take, List.length_drop] at *
    omega
  · next waiting =>
    split
    · simp only [List.length_drop]
      exact ⟨by omega, by decide⟩
    · have open_eq : l.openNotices = l.queue := if_neg waiting
      refine ⟨?_, attempts⟩
      rw [Lane.length_eraseP_of_any (open_eq ▸ any)]
      omega

theorem State.keeps_place (n : Notice) : s.Keeps (s.place n) := by
  unfold State.place
  split
  · next room => exact s.keeps_updLane (fun ⟨_, _, attempts⟩ => Lane.join_bounded room attempts n) id
  · split
    · exact .refl s
    · split
      · next any =>
        refine s.keeps_updLane (fun h => ?_) ?_
        · obtain ⟨room, attempts⟩ := Lane.evict_room h any
          exact Lane.join_bounded room attempts n
        · unfold Lane.evict Lane.join
          split <;> [exact id; split <;> exact id]
      · exact s.keeps_updCounters

theorem mergeExtentNotice_length {clip : Clip} {role : Role} {th : Nat} {runs rest : List Run} {l m : List Notice}
    (h : mergeExtentNotice clip role th runs l = some (m, rest)) : m.length = l.length := by
  induction l generalizing m with
  | nil => simp [mergeExtentNotice] at h
  | cons n ns ih =>
    have behind {x : Notice} (k : (mergeExtentNotice clip role th runs ns).map (fun y => (x :: y.1, y.2)) = some (m, rest)) :
        m.length = (n :: ns).length := by
      obtain ⟨⟨tail, left⟩, found, same⟩ := Option.map_eq_some_iff.mp k
      obtain ⟨rfl, rfl⟩ := Prod.mk.inj same
      simp [ih found]
    cases n with
    | extent c r t q =>
      simp only [mergeExtentNotice] at h
      split at h
      · split at h
        · obtain ⟨rfl, -⟩ := Prod.mk.inj (Option.some.inj h)
          rfl
        · simp at h
      · exact behind h
    | _ => exact behind h

theorem Lane.locked_append_open (l : Lane) : l.locked ++ l.openNotices = l.queue := by
  unfold Lane.locked Lane.openNotices
  split
  · exact List.take_append_drop 1 l.queue
  · rfl

/-- A change of the queue that leaves its length as it is. -/
theorem State.keeps_requeue {q : List Notice} (h : q.length = s.lane.queue.length) :
    s.Keeps (s.updLane (fun l => { l with queue := q })) :=
  s.keeps_updLane (fun ⟨small, idle, attempts⟩ =>
    ⟨show q.length ≤ _ from h ▸ small, idle.trans (by rw [← List.length_eq_zero_iff, ← h, List.length_eq_zero_iff]),
      attempts⟩) id

theorem State.keeps_offer (n : Notice) : s.Keeps (s.offer n) := by
  unfold State.offer
  split
  · have whole := congrArg List.length s.lane.locked_append_open
    rw [List.length_append] at whole
    split
    · refine s.keeps_requeue (q := s.lane.locked ++ s.lane.openNotices.map _) ?_
      simp [whole]
    · split
      · split
        · exact s.keeps_place _
        · next merged rest found =>
          have same := mergeExtentNotice_length found
          have requeued : s.Keeps (s.updLane (fun l => { l with queue := l.locked ++ merged.reverse })) :=
            s.keeps_requeue (q := s.lane.locked ++ merged.reverse) (by simpa [same] using whole)
          dsimp only
          split
          · exact requeued
          · exact requeued.trans (State.keeps_place _ _)
      · exact s.keeps_place n
  · exact .refl s

/-! ### The Store Port's own state (R127, R135, R136, R146) -/

theorem State.keeps_updStore {f : Store → Store} (h : s.queuesLawful → (s.updStore f).queuesLawful) :
    s.Keeps (s.updStore f) :=
  ⟨⟨id, fun _ => .refl _, id, id, h, id⟩, rfl, rfl⟩

/-- A change that touches neither the link nor the queues with their current values. -/
theorem State.keeps_updStore_aside {f : Store → Store} (link : (f s.store).link = s.store.link)
    (queue : ∀ c, (f s.store).queue c = s.store.queue c) (current : ∀ c, (f s.store).current c = s.store.current c) :
    s.Keeps (s.updStore f) :=
  s.keeps_updStore fun h c => by
    change (f s.store).queueLaw c
    simpa only [Store.queueLaw, link, queue, current] using h c

@[simp] theorem Store.setQueue_queue (st : Store) (c d : JobClass) (q : List Job) :
    (st.setQueue c q).queue d = if d = c then q else st.queue d := by
  cases c <;> cases d <;> rfl

@[simp] theorem Store.setQueue_current (st : Store) (c d : JobClass) (q : List Job) :
    (st.setQueue c q).current d = if d = c ∧ q = [] then 0 else st.current d := by
  by_cases empty : q = [] <;> cases c <;> cases d <;> simp [Store.setQueue, Store.current, empty]

@[simp] theorem Store.setQueue_link (st : Store) (c : JobClass) (q : List Job) : (st.setQueue c q).link = st.link := by
  cases c <;> rfl

/-- A class queue becomes one that obeys the law. -/
theorem State.keeps_setQueue (c : JobClass) {q : Store → List Job}
    (h : s.store.queueLaw c → (q s.store).length ≤ Config.queueJobs ∧ (∀ j ∈ q s.store, j.cls = c) ∧
      (s.store.link ≠ .up → q s.store = [])) :
    s.Keeps (s.updStore (fun st => st.setQueue c (q st))) :=
  s.keeps_updStore fun lawful d => by
    change (s.store.setQueue c (q s.store)).queueLaw d
    by_cases hd : d = c
    · subst hd
      obtain ⟨small, own, down⟩ := h (lawful d)
      simpa [Store.queueLaw] using ⟨small, own, down, fun empty not_empty => absurd empty not_empty⟩
    · simpa [Store.queueLaw, hd] using lawful d

/-- Jobs leave a class queue. -/
theorem State.keeps_filterQueue (c : JobClass) (p : Job → Bool) :
    s.Keeps (s.updStore (fun st => st.setQueue c ((st.queue c).filter p))) :=
  s.keeps_setQueue c (q := fun st => (st.queue c).filter p) fun ⟨small, own, down, _⟩ =>
    ⟨(List.length_filter_le _ _).trans small, fun j hj => own j (List.mem_of_mem_filter hj), fun h => by simp [down h]⟩

theorem State.keeps_dropJob (j : Job) : s.Keeps (s.dropJob j) := s.keeps_filterQueue j.cls _

theorem State.keeps_updJob (j : Job) {f : Job → Job} (cls : ∀ x, (f x).cls = x.cls) : s.Keeps (s.updJob j f) :=
  s.keeps_setQueue j.cls (q := fun st => (st.queue j.cls).map (fun x => if x.is j.kind j.frame then f x else x))
    fun ⟨small, own, down, _⟩ => by
      refine ⟨by simpa using small, fun x hx => ?_, fun h => by simp [down h]⟩
      obtain ⟨y, hy, rfl⟩ := List.mem_map.mp hx
      split
      · exact (cls y).trans (own y hy)
      · exact own y hy

theorem State.keeps_setTag (g : Tag) (v : TagState) : s.Keeps (s.setTag g v) :=
  s.keeps_updStore_aside (f := fun st => { st with tags := st.tags.set g v }) rfl (fun c => by cases c <;> rfl)
    (fun c => by cases c <;> rfl)

theorem State.keeps_updTags (f : TagState → TagState) : s.Keeps (s.updTags f) :=
  .foldl (fun s g => s.keeps_setTag g _) _ s

/-- The class queues are emptied with their current values, whatever the link becomes. -/
theorem State.keeps_emptied {f : Store → Store} (h : ∀ c, (f s.store).queue c = [] ∧ (f s.store).current c = 0) :
    s.Keeps (s.updStore f) :=
  s.keeps_updStore fun _ c => by
    obtain ⟨empty, zero⟩ := h c
    change (f s.store).queueLaw c
    simp [Store.queueLaw, empty, zero]

/-! ### The parts under no law -/

theorem State.keeps_sources (l : List SourceEntry) : s.Keeps { s with sources := l } :=
  ⟨⟨id, fun _ => .refl _, id, id, id, id⟩, rfl, rfl⟩

theorem State.keeps_updHouse (f : House → House) : s.Keeps (s.updHouse f) := ⟨⟨id, fun _ => .refl _, id, id, id, id⟩, rfl, rfl⟩

theorem State.keeps_updPort (p : PortNo) {f : Port → Port} (bad : (s.port p).badPieces ≤ 65535 → (f (s.port p)).badPieces ≤ 65535)
    (losses : (s.port p).lockLosses ≤ 65535 → (f (s.port p)).lockLosses ≤ 65535) : s.Keeps (s.updPort p f) where
  pool := id
  bindings _ := .refl _
  tallies := fun ⟨ports, node⟩ => ⟨fun x => by
    rw [State.port_updPort]
    split
    · exact ⟨bad (ports p).1, losses (ports p).2⟩
    · exact ports x, node⟩
  lane := id
  queues := id
  fltn := id
  now := rfl
  pending := rfl

end Updates
end Sys2Proof.Machine
end

section
/-! What the shared operations on a recording keep: each is a sequence of updates that keep every law (`State.Keeps`). -/

namespace Sys2Proof.Machine

variable (s : State) (b : BindingNo)

/-! ### Notices, extents, reports (R98, R107, R120 to R122) -/

theorem State.keeps_offerTake : s.Keeps (s.offerTake b) := by
  unfold State.offerTake
  dsimp only
  split
  · split
    · exact .refl s
    · exact s.keeps_offer _
  · exact .refl s

theorem enterReport_length (l : List Run) (r : Run) (h : l.length ≤ Config.reportRuns) :
    (enterReport l r).1.length ≤ Config.reportRuns := by
  unfold enterReport
  split
  · next last some =>
    have pos : l.length ≠ 0 := by rintro none; simp [List.length_eq_zero_iff.mp none] at some
    split
    · simpa using by omega
    · split
      · simpa using by omega
      · simpa using by omega
  · exact Nat.succ_le_of_lt (by decide)

theorem State.keeps_report (r : Run) : s.Keeps (s.report b r) := by
  unfold State.report
  refine State.Keeps.trans ?_ (State.keeps_updCounters _)
  exact s.keeps_updCoord b (fun ⟨map, extents, report, takers⟩ =>
      ⟨map, extents, enterReport_length _ r report, takers⟩) id

theorem State.keeps_insertExtent (k : ExtentKind) (lo hi : Nat) : s.Keeps (s.insertExtent b k lo hi) := by
  unfold State.insertExtent
  refine s.keeps_updCoord b (fun ⟨map, extents, report, takers⟩ => ?_) fun through => ?_
  · obtain ⟨map', extents', -⟩ := insertionKeepsPrecedence _ _ (s.binding b).effEnd lo hi k map extents rfl
    exact ⟨map', extents', report, takers⟩
  · dsimp only
    split
    · exact Nat.min_le_left _ _
    · exact through

theorem State.keeps_ownGap (lo hi : Nat) : s.Keeps (s.ownGap b lo hi) := by
  unfold State.ownGap
  dsimp only
  split
  · split
    · exact (s.keeps_insertExtent b _ lo hi).trans (State.keeps_report _ b _)
    · exact s.keeps_insertExtent b _ lo hi
  · exact .refl s

theorem State.keeps_yieldFrame (i : Nat) : s.Keeps (s.yieldFrame b i) :=
  (s.keeps_releaseFrame i).trans (State.keeps_count _ b _ _)

theorem State.keeps_yieldCovered (ranges : List (Nat × Nat)) : s.Keeps (s.yieldCovered b ranges) :=
  (s.keeps_updCoord b id id).trans (.foldl (fun s (h : Held) => s.keeps_yieldFrame b h.frame) _ _)

/-! ### Jobs and writes (R111, R114, R127, R143) -/

theorem State.keeps_tellFailure (j : Job) : s.Keeps (s.tellFailure j) := by
  unfold State.tellFailure
  split
  · exact ((s.keeps_ownGap _ _ _).trans (State.keeps_count _ _ _ _)).trans (State.keeps_giveBack _ _)
  · exact (s.keeps_count _ _ _).trans (State.keeps_giveBack _ _)

theorem State.keeps_endTransactions (k : JobKind) (i : Nat) : s.Keeps (s.endTransactions k i) := s.keeps_updTags _

theorem State.keeps_failJob (j : Job) : s.Keeps (s.failJob j) :=
  ((s.keeps_endTransactions _ _).trans (State.keeps_dropJob _ j)).trans (State.keeps_tellFailure _ j)

theorem State.keeps_handOver (j : Job) : s.Keeps (s.handOver j) := by
  unfold State.handOver
  split
  · next taken =>
    obtain ⟨up, room⟩ := taken
    refine s.keeps_setQueue j.cls (q := fun st => st.queue j.cls ++ [j]) fun ⟨_, own, _, _⟩ =>
      ⟨by simpa using room, fun x hx => ?_, fun down => absurd up down⟩
    obtain old | rfl : x ∈ s.store.queue j.cls ∨ x = j := by simpa using hx
    · exact own x old
    · rfl
  · exact s.keeps_tellFailure j

theorem State.keeps_writeFrame (i : Nat) (cls : JobClass) (c : BindingCounter) : s.Keeps (s.writeFrame b i cls c) := by
  unfold State.writeFrame
  split
  · exact .refl s
  · have sent : ∀ (x : FrameState) (n : Nat), s.Keeps ((s.updFrame i (fun f => { f with state := x, users := n })).count b c) :=
      fun x n => .trans (s.keeps_updFrame i (g := fun f => { f with state := x, users := n }) (fun _ => rfl) (fun _ => rfl))
        (State.keeps_count _ b c 1)
    dsimp only
    split
    · exact ((sent _ _).trans (State.keeps_handOver _ _)).trans (State.keeps_updBinding _ b ⟨id, id⟩)
    · exact (sent _ _).trans (State.keeps_handOver _ _)

theorem State.keeps_fillHeld (h : Held) : s.Keeps (s.fillHeld b h) :=
  (s.keeps_updCoord b id id).trans (State.keeps_writeFrame _ b _ _ _)

theorem State.keeps_fillAll (hs : List Held) : s.Keeps (s.fillAll b hs) := .foldl (fun s h => s.keeps_fillHeld b h) hs s

theorem State.keeps_pressureTest : s.Keeps (s.pressureTest b) := by
  unfold State.pressureTest
  split
  · split
    · exact .refl s
    · exact s.keeps_fillHeld b _
  · exact .refl s

/-! ### Roles and grades (R93, R103, R104, R117) -/

theorem State.keeps_promote : s.Keeps (s.promote b) :=
  (s.keeps_updCoord b id id).trans (.foldl (fun s (h : Held) => s.keeps_writeFrame b h.frame _ _) _ _)

theorem State.keeps_changeView (best : Station) : s.Keeps (s.changeView b best) := by
  have viewed : ∀ r : Role, s.Keeps ((s.updCoord b (fun c =>
      { c with primary := some best, role := r, primaryThrough := none })).offerTake b) :=
    fun r => (s.keeps_updCoord b id id).trans (State.keeps_offerTake _ b)
  unfold State.changeView
  dsimp only
  split
  · exact (viewed _).trans (State.keeps_promote _ b)
  · exact viewed _

theorem State.keeps_evaluate : s.Keeps (s.evaluate b) := by
  unfold State.evaluate
  split
  · exact s.keeps_changeView b _
  · exact .refl s

/-- A change of what Frame Accounting keeps, but for the buckets and the history. -/
theorem State.keeps_updAcct {f : Accounting → Accounting} (committed : ∀ a, (f a).committed = a.committed)
    (excess : ∀ a, (f a).excess = a.excess)
    (history : (s.binding b).acct.history.length ≤ Config.historyOutcomes →
      (f (s.binding b).acct).history.length ≤ Config.historyOutcomes) :
    s.Keeps (s.updAcct b f) :=
  s.keeps_updBinding b ⟨fun ⟨c, e⟩ => ⟨(committed _).trans_le c, (excess _).trans_le e⟩,
    fun ⟨⟨ends, through, slots, old⟩, coord, counters⟩ => ⟨⟨ends, through, slots, history old⟩, coord, counters⟩⟩

theorem State.keeps_setGrade (g : Nat) : s.Keeps (s.updAcct b (fun a => { a with grade := g })) :=
  s.keeps_updAcct b (fun _ => rfl) (fun _ => rfl) id

theorem State.keeps_recomputeGrade : s.Keeps (s.recomputeGrade b) := by
  unfold State.recomputeGrade
  dsimp only
  split
  · exact .refl s
  · refine State.Keeps.trans ?_ (State.keeps_evaluate _ b)
    refine State.Keeps.trans ?_ (State.keeps_offerTake _ b)
    exact s.keeps_setGrade b _

theorem State.keeps_recomputeGrades (order : List Nat) : s.Keeps (s.recomputeGrades order) :=
  .foldl (fun s b => s.keeps_recomputeGrade b) _ s

/-! ### Closures and completed frames (R82, R85, R89, R109 to R112) -/

theorem State.keeps_takeClosure (o : Closure) : s.Keeps (s.takeClosure b o) := by
  refine State.Keeps.trans ?_ (State.keeps_recomputeGrade _ b)
  refine s.keeps_updAcct b (fun _ => rfl) (fun _ => rfl) fun _ => ?_
  simp only [List.length_drop, List.length_append]
  omega

theorem colourOf_le {rate c x cbs ebs : Nat} (hc : c ≤ cbs) (hx : x ≤ ebs) (total : Nat) :
    (colourOf rate c x total).2.1 ≤ cbs ∧ (colourOf rate c x total).2.2 ≤ ebs := by
  unfold colourOf
  split
  · exact ⟨hc, hx⟩
  · split
    · exact ⟨(Nat.sub_le _ _).trans hc, hx⟩
    · split
      · exact ⟨hc, (Nat.sub_le _ _).trans hx⟩
      · exact ⟨hc, hx⟩

theorem State.keeps_colourFrame (f : FrameRecord) : s.Keeps (s.colourFrame b f) := by
  let c := colourOf (s.binding b).terms.rate (s.binding b).acct.committed (s.binding b).acct.excess f.byteTotal
  have coloured : s.Keeps ((s.updAcct b (fun a => { a with committed := c.2.1, excess := c.2.2 })).updFrame f.index
      (fun x => { x with colour := some c.1 })) := by
    refine State.Keeps.trans ?_ (State.keeps_updFrame _ _ (fun _ => rfl) (fun _ => rfl))
    exact s.keeps_updBinding b ⟨fun ⟨committed, excess⟩ => colourOf_le committed excess _, id⟩
  unfold State.colourFrame
  dsimp only
  split
  · exact coloured
  · exact coloured.trans (State.keeps_count _ b _ _)
  · exact coloured.trans (State.keeps_count _ b _ _)

theorem State.keeps_redFrame (f : FrameRecord) : s.Keeps (s.redFrame b f) :=
  (s.keeps_ownGap b _ _).trans (State.keeps_releaseFrame _ _)

theorem State.keeps_holdFrame (f : FrameRecord) : s.Keeps (s.holdFrame b f) := by
  have held : ∀ l : List Held → List Held, s.Keeps ((s.updFrame f.index (fun x => { x with state := .held })).updCoord b
      (fun c => { c with held := l c.held })) := fun l => by
    refine State.Keeps.trans ?_ (State.keeps_updCoord _ b id id)
    exact s.keeps_updFrame _ (fun _ => rfl) (fun _ => rfl)
  unfold State.holdFrame
  dsimp only
  refine State.Keeps.trans ?_ (State.keeps_pressureTest _ b)
  split
  · exact (held _).trans (State.keeps_fillHeld _ b _)
  · exact held _

theorem State.keeps_decideFate (i : Nat) : s.Keeps (s.decideFate b i) := by
  unfold State.decideFate
  split
  · exact .refl s
  · dsimp only
    split
    · exact s.keeps_yieldFrame b i
    · split
      · exact s.keeps_redFrame b _
      · split
        · exact s.keeps_writeFrame b i _ _
        · exact s.keeps_holdFrame b _

theorem State.keeps_accountComplete (f : FrameRecord) : s.Keeps (s.accountComplete b f) := by
  refine State.Keeps.trans ?_ (State.keeps_decideFate _ b _)
  refine State.Keeps.trans ?_ (State.keeps_updFrame _ _ (fun _ => rfl) (fun _ => rfl))
  refine State.Keeps.trans ?_ (State.keeps_takeClosure _ b _)
  exact (s.keeps_colourFrame b f).trans (State.keeps_updAcct _ b (fun _ => rfl) (fun _ => rfl) id)

/-! ### The window (R44 to R57) -/

theorem State.keeps_setSlot (i : Nat) (x : Slot) : s.Keeps (s.setSlot b i x) :=
  s.keeps_updAsm b fun h => by simpa using h

theorem State.keeps_advanceBase : s.Keeps (s.advanceBase b) := by
  unfold State.advanceBase
  split
  · exact s.keeps_updAsm b fun h => length_shiftSlots _ _ h
  · exact .refl s

theorem State.keeps_countClosure (o : Closure) : s.Keeps (s.countClosure b o) := by
  cases o
  case skipped => exact .refl s
  all_goals exact s.keeps_count b _ _

theorem State.keeps_closeSlot (i : Nat) (o : Closure) : s.Keeps (s.closeSlot b i o) := by
  unfold State.closeSlot
  dsimp only
  refine State.Keeps.trans ?_ (State.keeps_countClosure _ b o)
  refine State.Keeps.trans ?_ (State.keeps_setSlot _ b i _)
  split
  · exact s.keeps_freeFrame _
  · exact .refl s

theorem State.keeps_handGaps (ranges : List (Nat × Nat)) : s.Keeps (s.handGaps b ranges) :=
  .foldl (fun s (_ : Nat × Nat) => s.keeps_ownGap b _ _) _ s

theorem State.keeps_closeSlots (cs : List (Nat × Closure)) (extra : List (Nat × Nat)) :
    s.Keeps (s.closeSlots b cs extra) := by
  refine State.Keeps.trans ?_ (State.keeps_handGaps _ b _)
  refine State.Keeps.trans ?_ (.foldl (fun s o => s.keeps_takeClosure b o) _ _)
  refine State.Keeps.trans ?_ (.foldl (fun s (c : Nat × Closure) => s.keeps_takeClosure b c.2) cs _)
  refine State.Keeps.trans ?_ (State.keeps_count _ b _ _)
  exact .foldl (fun s (c : Nat × Closure) => s.keeps_closeSlot b c.1 c.2) cs s

theorem State.keeps_enterFinishing (r : FinishReason) : s.Keeps (s.enterFinishing b r) := by
  unfold State.enterFinishing
  dsimp only
  split
  · exact (s.keeps_updBinding b ⟨id, id⟩).trans (State.keeps_closeSlots _ b _ _)
  · exact s.keeps_updBinding b ⟨id, id⟩

theorem State.keeps_beyondEnd : s.Keeps (s.beyondEnd b) := s.keeps_enterFinishing b _

theorem State.keeps_completeFrame (i k : Nat) : s.Keeps (s.completeFrame b i k) := by
  have closed : s.Keeps ((s.setSlot b i (.closed .complete)).count b .complete) :=
    (s.keeps_setSlot b i _).trans (State.keeps_count _ b _ _)
  unfold State.completeFrame
  dsimp only
  refine State.Keeps.trans ?_ (State.keeps_advanceBase _ b)
  split
  · exact closed
  · exact closed.trans (State.keeps_accountComplete _ b _)

theorem State.keeps_abandonFrame (i k : Nat) (d : Time) : s.Keeps (s.abandonFrame b i k d) :=
  ((s.keeps_freeFrame k).trans (State.keeps_setSlot _ b i _)).trans (State.keeps_count _ b _ _)

theorem FrameRecord.length_placed_cells (f : FrameRecord) (channels : Nat) (p : Piece) :
    (f.placed channels p).cells.length = f.cells.length + 1 :=
  (insertCell_perm p.index.toNat p.payload f.cells).length_eq

variable {s} in
theorem State.keeps_placeCell {f : FrameRecord} (hf : s.frame? f.index = some f) (free : s.freeCells ≠ 0) (i : Nat)
    (p : Piece) : s.Keeps (s.placeCell b i f p) := by
  have placed : s.Keeps (({ s with freeCells := s.freeCells - 1 }.updFrame f.index
      (fun _ => f.placed (s.binding b).terms.audio p)).count b .pieces) := by
    refine State.Keeps.trans ?_ (State.keeps_count _ b _ _)
    exact State.keeps_takeCell s hf rfl (f.length_placed_cells _ p) free
  unfold State.placeCell
  dsimp only
  refine State.Keeps.trans ?_ (State.keeps_pressureTest _ b)
  split
  · exact placed.trans (State.keeps_completeFrame _ b _ _)
  · exact placed

theorem State.keeps_fillingPiece (i k : Nat) (d : Time) (p : Piece) : s.Keeps (s.fillingPiece b i k d p) := by
  unfold State.fillingPiece
  split
  · exact .refl s
  · next f hf =>
    split
    · exact s.keeps_count b _ _
    · split
      · exact s.keeps_count b _ _
      · split
        · exact s.keeps_abandonFrame b i k d
        · next free =>
          obtain ⟨-, index⟩ := State.frame?_some hf
          exact State.keeps_placeCell b (index ▸ hf) free i p

theorem State.keeps_countSkip (r : SkipReason) : s.Keeps (s.countSkip b r) := by
  cases r
  case covered | beyond => exact .refl s
  all_goals exact s.keeps_count b _ _

theorem length_overtake (d : Time) (n : Nat) (l : List Slot) : (overtake d n l).length = l.length := by
  induction n generalizing l with
  | zero => rfl
  | succ n ih =>
    unfold overtake
    split <;> simp_all

theorem noteOpening_slots (t : Terms) (n : FrameCount) (now : Time) (a : Assembly) :
    (noteOpening t n now a).slots = a.slots := by
  unfold noteOpening
  split <;> rfl

/-- Where no test of R47 holds, the table has room for a record. -/
theorem State.openingOf_fill {s : State} {b : BindingNo} {p : Piece} (h : s.openingOf b p = .fill) :
    s.frames.length < Config.frameRecords := by
  unfold State.openingOf at h
  dsimp only at h
  split at h
  · cases h
  · cases h
  · split at h
    · cases h
    · split at h
      · cases h
      · split at h
        · cases h
        · next room => simp only [not_or, not_le] at room; exact room.2.1

theorem State.keeps_openFrame (i : Nat) (own : Option Time) (p : Piece) : s.Keeps (s.openFrame b i own p) := by
  have noted : s.Keeps (s.updAsm b (noteOpening (s.binding b).terms p.count s.now)) :=
    s.keeps_updAsm b fun h => (congrArg List.length (noteOpening_slots _ _ _ _)).trans h
  have overtaken : ∀ (u : State) (d : Time), u.Keeps (u.updAsm b (fun a => { a with slots := overtake d i a.slots })) :=
    fun u d => u.keeps_updAsm b fun h => (length_overtake d i _).trans h
  have noted' := fun d => noted.trans (overtaken _ d)
  unfold State.openFrame
  dsimp only
  split
  · have skipped := fun d r e => ((noted' d).trans (State.keeps_setSlot _ b i (.skipped r e))).trans (State.keeps_countSkip _ b r)
    split
    · exact (skipped _ _ _).trans (State.keeps_beyondEnd _ b)
    · exact skipped _ _ _
  · next fills =>
    refine State.Keeps.trans ?_ (State.keeps_fillingPiece _ b _ _ _ _)
    refine State.Keeps.trans ?_ (State.keeps_setSlot _ b i _)
    refine State.Keeps.trans (noted' _) (State.keeps_insertFrame _ ?_ ?_ ?_)
    · rfl
    · rfl
    · change s.frames.length < Config.frameRecords
      exact State.openingOf_fill fills

theorem State.keeps_forceAdvance (k : Nat) : s.Keeps (s.forceAdvance b k) := by
  unfold State.forceAdvance
  dsimp only
  refine State.Keeps.trans ?_ (State.keeps_updAsm _ b fun h => length_shiftSlots _ _ h)
  exact s.keeps_closeSlots b _ _

theorem State.keeps_pieceInSlot (i : Nat) (p : Piece) : s.Keeps (s.pieceInSlot b i p) := by
  unfold State.pieceInSlot
  split
  · exact .refl s
  · exact s.keeps_openFrame b i _ p
  · exact s.keeps_fillingPiece b i _ _ p
  · exact .refl s
  · exact s.keeps_count b _ _

theorem State.keeps_recordingPiece (p : Piece) : s.Keeps (s.recordingPiece b p) := by
  unfold State.recordingPiece
  dsimp only
  split
  · exact s.keeps_count b _ _
  · split
    · exact s.keeps_count b _ _
    · split
      · exact s.keeps_pieceInSlot b _ p
      · exact ((s.keeps_forceAdvance b _).trans (State.keeps_advanceBase _ b)).trans (State.keeps_pieceInSlot _ b _ p)

theorem State.keeps_finishingPiece (p : Piece) : s.Keeps (s.finishingPiece b p) := by
  unfold State.finishingPiece
  dsimp only
  split
  · split
    · exact s.keeps_fillingPiece b _ _ _ p
    · exact .refl s
    · exact s.keeps_count b _ _
  · exact s.keeps_count b _ _

theorem State.keeps_armedPiece (p : Piece) : s.Keeps (s.armedPiece b p) := by
  unfold State.armedPiece
  dsimp only
  split
  · exact s.keeps_count b _ _
  · exact (s.keeps_updBinding b ⟨id, id⟩).trans (State.keeps_recordingPiece _ b p)

theorem State.keeps_noteArrival : s.Keeps (s.noteArrival b) := by
  unfold State.noteArrival
  dsimp only
  split
  · refine State.Keeps.trans ?_ (State.keeps_recomputeGrade _ b)
    refine State.Keeps.trans ?_ (State.keeps_updAcct _ b (fun _ => rfl) (fun _ => rfl) id)
    exact s.keeps_updAsm b id
  · exact s.keeps_updAsm b id

theorem State.keeps_routePiece (p : Piece) : s.Keeps (s.routePiece b p) := by
  unfold State.routePiece
  split
  · exact .refl s
  · exact .refl s
  · exact (s.keeps_noteArrival b).trans (State.keeps_armedPiece _ b p)
  · exact (s.keeps_noteArrival b).trans (State.keeps_recordingPiece _ b p)
  · exact (s.keeps_noteArrival b).trans (State.keeps_finishingPiece _ b p)

theorem State.keeps_slotDeadline (n : FrameCount) : s.Keeps (s.slotDeadline b n) := by
  unfold State.slotDeadline
  dsimp only
  split
  · split
    · exact .refl s
    · split
      · exact .refl s
      · split
        · split
          · exact (s.keeps_closeSlots b _ _).trans (State.keeps_advanceBase _ b)
          · exact .refl s
        · exact .refl s
  · exact .refl s

end Sys2Proof.Machine
end

section
/-! What the commands keep: stops, timed work, peer notices, aborts, the Store Port, the ports, the lane and the node states;
then every command and every step. -/

namespace Sys2Proof.Machine

variable (s : State) (b : BindingNo)

/-! ### Stops (R13 to R15) -/

theorem State.keeps_lowerStop (p : Nat) : s.Keeps (s.lowerStop b p) :=
  s.keeps_updBinding b ⟨id, fun ⟨⟨_, _, slots, history⟩, coord, counters⟩ =>
    ⟨⟨rfl, Nat.min_le_right _ _, slots, history⟩, coord, counters⟩⟩

theorem State.keeps_releaseAbove (e : Nat) : s.Keeps (s.releaseAbove b e) :=
  (s.keeps_updCoord b id id).trans (.foldl (fun s (h : Held) => s.keeps_releaseFrame h.frame) _ _)

theorem State.keeps_endAbove : s.Keeps (s.endAbove b) :=
  (s.keeps_releaseAbove b _).trans (State.keeps_closeSlots _ b _ _)

theorem State.keeps_stopAt (p : Nat) : s.Keeps (s.stopAt b p) := by
  unfold State.stopAt
  dsimp only
  split
  · exact .refl s
  · refine (s.keeps_lowerStop b p).trans ?_
    split
    · split
      · exact State.keeps_enterFinishing _ b _
      · exact .refl _
    · split <;> split
      · exact (State.keeps_endAbove _ b).trans (State.keeps_enterFinishing _ b _)
      · exact State.keeps_endAbove _ b
      · exact State.keeps_enterFinishing _ b _
      · exact .refl _
    · split
      · exact State.keeps_endAbove _ b
      · exact .refl _
    · exact .refl _
    · exact .refl _

theorem State.keeps_stopNow : s.Keeps (s.stopNow b) := by
  unfold State.stopNow
  dsimp only
  split
  · exact (s.keeps_lowerStop b 0).trans (State.keeps_enterFinishing _ b _)
  · exact .refl s
  · exact .refl s
  · split
    · have closed : ∀ p e cs, s.Keeps (((s.lowerStop b p).releaseAbove b e).closeSlots b cs []) := fun p e cs =>
        ((s.keeps_lowerStop b p).trans (State.keeps_releaseAbove _ b e)).trans (State.keeps_closeSlots _ b cs [])
      split
      · exact (closed _ _ _).trans (State.keeps_enterFinishing _ b _)
      · exact closed _ _ _
    · exact .refl s

theorem State.keeps_stopClip (clip : Clip) (p : Nat) : s.Keeps (s.stopClip clip p) := by
  unfold State.stopClip
  split
  · split
    · exact .refl s
    · split
      · exact s.keeps_stopNow _
      · exact s.keeps_stopAt _ p
  · exact .refl s

/-! ### Timed work of a binding (R84, R91, R98, R100, R102, R115, R123) -/

theorem State.keeps_settle : s.Keeps (s.settle b) := by
  unfold State.settle
  split
  · exact .refl s
  · split
    · exact State.Keeps.trans (s.keeps_updCoord b id id) (State.keeps_changeView _ b _)
    · exact .refl s

theorem State.keeps_takeDue : s.Keeps (s.takeDue b) := by
  unfold State.takeDue
  split
  · exact (s.keeps_offerTake b).trans (State.keeps_updCoord _ b id id)
  · exact .refl s

theorem State.keeps_holdDue : s.Keeps (s.holdDue b) := by
  unfold State.holdDue
  split
  · split
    · exact .refl s
    · exact s.keeps_fillHeld b _
  · exact .refl s

theorem State.keeps_extentDue : s.Keeps (s.extentDue b) := by
  unfold State.extentDue
  dsimp only
  split
  · split
    · refine State.Keeps.trans ?_ (State.keeps_offer _ _)
      refine State.Keeps.trans (u := s.updCoord b _) (s.keeps_updCoord b id id) (State.keeps_updCoord _ b ?_ id)
      exact fun ⟨map, extents, report, takers⟩ => ⟨map, extents, (List.drop_sublist _ _).length_le.trans report, takers⟩
    · exact s.keeps_updCoord b id id
  · exact .refl s

theorem State.keeps_creditAll : s.Keeps s.creditAll := by
  refine .foldl (fun s b => ?_) _ s
  dsimp only
  split
  · exact .refl s
  · exact s.keeps_updBinding b ⟨fun _ => ⟨Nat.min_le_left _ _, Nat.min_le_left _ _⟩, id⟩

theorem State.keeps_fallSilent : s.Keeps (s.fallSilent b) := by
  unfold State.fallSilent
  dsimp only
  split
  · refine State.Keeps.trans ?_ (State.keeps_recomputeGrade _ b)
    exact s.keeps_updAcct b (fun _ => rfl) (fun _ => rfl) id
  · exact .refl s

/-- A change of the taker list that leaves it at 8 entries or fewer. -/
theorem State.keeps_updTakers {f : List Taker → List Taker}
    (h : (s.binding b).coord.takers.length ≤ Config.takerEntries →
      (f (s.binding b).coord.takers).length ≤ Config.takerEntries) :
    s.Keeps (s.updCoord b (fun c => { c with takers := f c.takers })) :=
  s.keeps_updCoord b (fun ⟨map, extents, report, takers⟩ => ⟨map, extents, report, h takers⟩) id

theorem State.keeps_dropTaker (x : Station) :
    s.Keeps (s.updCoord b (fun c => { c with takers := c.takers.filter (fun y => y.station ≠ x) })) :=
  s.keeps_updTakers b (f := List.filter _) (List.length_filter_le _ _).trans

theorem State.keeps_expireTaker (x : Station) : s.Keeps (s.expireTaker b x) := by
  unfold State.expireTaker
  dsimp only
  split
  · exact (s.keeps_dropTaker b x).trans (State.keeps_evaluate _ b)
  · exact .refl s

theorem State.keeps_becomeQuiet : s.Keeps (s.becomeQuiet b) := by
  unfold State.becomeQuiet
  split
  · exact s.keeps_updBinding b ⟨id, id⟩
  · exact .refl s

/-! ### Peer notices and QUERY (R21, R99, R101, R125) -/

theorem worstTaker_mem {l : List Taker} {w : Taker} (h : worstTaker l = some w) : w ∈ l := by
  induction l generalizing w with
  | nil => simp [worstTaker] at h
  | cons x xs ih =>
    unfold worstTaker at h
    split at h
    · simp_all
    · next y found =>
      split at h
      · exact List.mem_cons_of_mem x (Option.some.inj h ▸ ih found)
      · simp_all

theorem enterTaker_length {l : List Taker} (t : Taker) (h : l.length ≤ Config.takerEntries) :
    (enterTaker l t).length ≤ Config.takerEntries := by
  unfold enterTaker
  split
  · simpa using h
  · split
    · next room => simpa using room
    · split
      · exact h
      · next w worst =>
        split
        · have gone : (l.filter (fun x => x.station ≠ w.station)).length < l.length :=
            List.length_filter_lt_length_iff_exists.mpr ⟨w, worstTaker_mem worst, by simp⟩
          simp only [List.length_append, List.length_singleton]
          omega
        · exact h

theorem State.keeps_peerTake (x : Station) (clip : Clip) (g : Nat) : s.Keeps (s.peerTake x clip g) := by
  unfold State.peerTake
  split
  · split
    · exact .refl s
    · next b _ =>
      refine State.Keeps.trans ?_ (State.keeps_evaluate _ b)
      exact s.keeps_updTakers b (f := fun l => enterTaker l _) (enterTaker_length _)
  · exact .refl s

theorem State.keeps_peerDone (x : Station) (clip : Clip) : s.Keeps (s.peerDone x clip) := by
  unfold State.peerDone
  split
  · split
    · exact .refl s
    · exact (s.keeps_dropTaker _ x).trans (State.keeps_evaluate _ _)
  · exact .refl s

theorem State.keeps_insertAll (k : ExtentKind) (rs : List (Nat × Nat)) : s.Keeps (s.insertAll b k rs) :=
  .foldl (fun s (r : Nat × Nat) => s.keeps_insertExtent b k r.1 r.2) rs s

theorem State.keeps_peerExtent (x : Station) (clip : Clip) (th : Nat) (runs : List WireRun) :
    s.Keeps (s.peerExtent x clip th runs) := by
  unfold State.peerExtent
  dsimp only
  split
  · split
    · exact .refl s
    · refine State.Keeps.trans ?_ (State.keeps_fillAll _ _ _)
      refine State.Keeps.trans ?_ (State.keeps_yieldCovered _ _ _)
      have inserted : ∀ b ws gs, s.Keeps ((s.insertAll b .peerWritten ws).insertAll b .primaryGap gs) := fun b ws gs =>
        (s.keeps_insertAll b _ ws).trans (State.keeps_insertAll _ b _ gs)
      split
      · exact (inserted _ _ _).trans (State.keeps_updCoord _ _ id id)
      · exact inserted _ _ _
  · exact .refl s

theorem State.keeps_answerQuery (target : BitVec 8) (clip : Clip) : s.Keeps (s.answerQuery target clip) := by
  unfold State.answerQuery
  dsimp only
  split
  · split
    · exact (s.keeps_offer _).trans (State.keeps_offer _ _)
    · split
      · exact s.keeps_offer _
      · split
        · exact .refl s
        · exact s.keeps_offer _
  · exact .refl s

/-! ### Aborts, drains and the return to IDLE (R18 to R20, R149) -/

theorem State.keeps_becomeIdle : s.Keeps (s.becomeIdle b) := by
  unfold State.becomeIdle
  refine State.Keeps.trans (s.keeps_sources _) (State.keeps_updBinding _ b ⟨fun _ => ?_, fun ⟨_, _, counters⟩ => ?_⟩)
  · exact ⟨le_refl 0, le_refl 0⟩
  · refine ⟨⟨(Nat.zero_min _).symm, le_refl 0, List.length_replicate, Nat.zero_le _⟩, ⟨trivial, ?_, ?_, ?_⟩, counters⟩
    all_goals exact Nat.zero_le _

theorem State.keeps_drained : s.Keeps (s.drained b) := by
  obtain ⟨-, h⟩ | ⟨-, h⟩ | ⟨-, h⟩ := s.drained_cases b <;> rw [h]
  · exact s.keeps_updBinding b ⟨id, id⟩
  · exact .refl s
  · exact s.keeps_becomeIdle b

theorem State.keeps_endDrain : s.Keeps (s.endDrain b) := by
  unfold State.endDrain
  split
  · exact s.keeps_drained b
  · exact .refl s

theorem State.keeps_queueDone : s.Keeps (s.queueDone b) := by
  unfold State.queueDone
  dsimp only
  split
  · exact .refl s
  · split
    · exact (s.keeps_offer _).trans (State.keeps_becomeIdle _ b)
    · exact .refl s
  · split
    · exact s.keeps_becomeIdle b
    · exact .refl s

theorem State.keeps_dropJobsOf : s.Keeps (s.dropJobsOf b) :=
  ((s.keeps_filterQueue .live _).trans (State.keeps_filterQueue _ .fill _)).trans (State.keeps_filterQueue _ .browse _)

theorem State.keeps_removeJob (j : Job) : s.Keeps (s.removeJob j) := by
  unfold State.removeJob
  split
  · exact s.keeps_updTags _
  · exact s.keeps_giveBackOwn _ _

theorem State.keeps_releaseAll : s.Keeps (s.releaseAll b) := .foldl (fun s i => s.keeps_releaseFrame i) _ s

theorem State.keeps_drainUnlessFlying : s.Keeps (if s.inFlightOf b then s else s.drained b) := by
  split
  · exact .refl s
  · exact s.keeps_drained b

theorem State.keeps_abortBinding (p : DonePending) : s.Keeps (s.abortBinding b p) := by
  unfold State.abortBinding
  dsimp only
  refine State.Keeps.trans ?_ (State.keeps_drainUnlessFlying _ b)
  refine State.Keeps.trans ?_ (State.keeps_recomputeGrade _ b)
  refine State.Keeps.trans ?_ (State.keeps_releaseAll _ b)
  refine State.Keeps.trans ?_ (State.keeps_updBinding _ b ⟨id, id⟩)
  refine State.Keeps.trans ?_ (.foldl (fun s i => s.keeps_giveBackOwn b i) _ _)
  refine State.Keeps.trans ?_ (.foldl (fun s j => s.keeps_removeJob j) _ _)
  refine State.Keeps.trans ?_ (State.keeps_dropJobsOf _ b)
  refine s.keeps_updBinding b ⟨id, fun ⟨⟨ends, through, _, history⟩, _, counters⟩ => ?_⟩
  refine ⟨⟨ends, through, List.length_replicate, history⟩, ⟨trivial, ?_, ?_, ?_⟩, counters⟩
  all_goals exact Nat.zero_le _

theorem State.keeps_abortAll : s.Keeps s.abortAll := .foldl (fun s b => s.keeps_abortBinding b _) _ s

theorem State.keeps_abortClip (clip : Clip) : s.Keeps (s.abortClip clip) := by
  unfold State.abortClip
  split
  · split
    · exact .refl s
    · exact s.keeps_abortBinding _ _
  · exact .refl s

/-! ### A request is taken (R4 to R10) -/

theorem State.keeps_forgetClip (clip : Clip) : s.Keeps (s.forgetClip clip) := by
  refine .foldl (fun s b => ?_) _ s
  split
  · exact s.keeps_updBinding b ⟨id, id⟩
  · exact .refl s

/-- A record at its start: full buckets, E at the clip length, empty lists, counters 0 (R2, R10). -/
theorem startBinding_lawful (s : State) (req : Request) :
    (startBinding s req (clampRequest req)).meterBounded ∧ (startBinding s req (clampRequest req)).sized := by
  have length_le : req.clipLength.toNat ≤ Config.noStop := by
    have := req.clipLength.isLt
    simp only [Config.noStop]
    omega
  have ends : (startBinding s req (clampRequest req)).endsAgree := by
    simp only [Binding.endsAgree, startBinding, clampRequest, Nat.min_eq_left length_le]
    exact ⟨trivial, Nat.zero_le _, List.length_replicate, Nat.zero_le _⟩
  have counters : (startBinding s req (clampRequest req)).countersBounded := by
    simp [Binding.countersBounded, BindingCounters.list, startBinding]
  refine ⟨⟨le_refl _, le_refl _⟩, ends, ⟨trivial, ?_, ?_, ?_⟩, counters⟩
  all_goals exact Nat.zero_le _

theorem State.keeps_takeRequest (req : Request) (order : List Nat) :
    s.Keeps (s.takeRequest b req (clampRequest req) order) := by
  unfold State.takeRequest
  dsimp only
  refine State.Keeps.trans ?_ (.foldl (fun s b => s.keeps_pressureTest b) _ _)
  refine State.Keeps.trans ?_ (State.keeps_offerTake _ b)
  refine State.Keeps.trans ?_ (State.keeps_setGrade _ b _)
  refine State.Keeps.trans ?_ (State.keeps_sources _ _)
  obtain ⟨meter, sizes⟩ := startBinding_lawful s req
  exact State.Keeps.trans (s.keeps_forgetClip _) (State.keeps_updBinding _ b ⟨fun _ => meter, fun _ => sizes⟩)

theorem State.keeps_considerRecord (req : Request) (order : List Nat) : s.Keeps (s.considerRecord req order) := by
  unfold State.considerRecord
  split
  · exact s.keeps_offerTake _
  · split
    · dsimp only
      split
      · exact s.keeps_offer _
      · split
        · exact s.keeps_offer _
        · exact s.keeps_takeRequest _ req order
        · exact .refl s
    · exact .refl s

/-! ### The Store Port (R132 to R149) -/

/-- The class queues are emptied, and then every job that was queued fails (R146). -/
theorem State.keeps_leaveUp_of_emptied {s v : State} (h : s.Keeps (v.updStore (fun st =>
    { st with live := [], fill := [], browse := [], currentLive := 0, currentFill := 0, currentBrowse := 0,
              pacing := none }))) : s.Keeps v.leaveUp := by
  unfold State.leaveUp
  dsimp only
  refine State.Keeps.trans ?_ (.foldl (fun s j => s.keeps_tellFailure j) _ _)
  exact h.trans (.foldl (fun s (j : Job) => s.keeps_endTransactions j.kind j.frame) _ _)

/-- With the link not UP the queues of a lawful state are empty already, so a change of the link's state keeps the law. -/
theorem State.keeps_linkFrom {f : Store → Store} (down : s.store.link ≠ .up)
    (queue : ∀ c, (f s.store).queue c = s.store.queue c) (current : ∀ c, (f s.store).current c = s.store.current c) :
    s.Keeps (s.updStore f) :=
  s.keeps_updStore fun lawful c => by
    obtain ⟨-, -, empty, zero⟩ := lawful c
    change (f s.store).queueLaw c
    simp [Store.queueLaw, queue, current, empty down, zero (empty down)]

theorem State.keeps_enterUp (down : s.store.link ≠ .up) (order : List Nat) : s.Keeps (s.enterUp order) := by
  unfold State.enterUp
  refine State.Keeps.trans ?_ (State.keeps_recomputeGrades _ order)
  exact s.keeps_linkFrom down (fun c => by cases c <;> rfl) (fun c => by cases c <;> rfl)

theorem State.updTags_eq (f : TagState → TagState) :
    s.updTags f = s.updStore (fun st => { st with tags := (s.updTags f).store.tags }) := by
  have h : ∀ (l : List Tag) (s : State), l.foldl (fun s g => s.setTag g (f (s.tag g))) s =
      s.updStore (fun st => { st with tags := (l.foldl (fun s g => s.setTag g (f (s.tag g))) s).store.tags }) := by
    intro l
    induction l with
    | nil => exact fun s => rfl
    | cons g gs ih => exact fun s => ih (s.setTag g (f (s.tag g)))
  exact h allTags s

theorem State.keeps_enterTraining (order : List Nat) : s.Keeps (s.enterTraining order) := by
  unfold State.enterTraining State.retireProbes
  dsimp only
  split
  · refine State.Keeps.trans ?_ (State.keeps_recomputeGrades _ order)
    refine State.keeps_leaveUp_of_emptied ?_
    rw [State.updTags_eq]
    exact State.keeps_emptied s (f := fun st => { st with
      live := [], fill := [], browse := [], currentLive := 0, currentFill := 0, currentBrowse := 0, pacing := none,
      link := .training, trainingSince := s.now, nextProbe := none, tags := _ }) fun c => by cases c <;> exact ⟨rfl, rfl⟩
  · next down =>
    refine State.Keeps.trans ?_ (State.keeps_updTags _ _)
    exact s.keeps_linkFrom down (fun c => by cases c <;> rfl) (fun c => by cases c <;> rfl)

theorem State.keeps_enterFailed (order : List Nat) : s.Keeps (s.enterFailed order) := by
  unfold State.enterFailed
  dsimp only
  refine State.Keeps.trans ?_ (State.keeps_recomputeGrades _ order)
  refine State.keeps_leaveUp_of_emptied ?_
  refine State.Keeps.trans (u := s.updCounters (fun c => { c with linkFailures := bump c.linkFailures 1 })) ?_ ?_
  · exact s.keeps_updCounters
  · exact State.keeps_emptied _ (f := fun st => { st with
      live := [], fill := [], browse := [], currentLive := 0, currentFill := 0, currentBrowse := 0, pacing := none,
      link := .failed, nextProbe := _ }) fun c => by cases c <;> exact ⟨rfl, rfl⟩

theorem State.keeps_failures (n : Nat) : s.Keeps (s.updStore (fun st => { st with failures := n })) :=
  s.keeps_updStore_aside rfl (fun c => by cases c <;> rfl) (fun c => by cases c <;> rfl)

theorem State.keeps_countFailure (order : List Nat) : s.Keeps (s.countFailure order) := by
  unfold State.countFailure
  dsimp only
  split
  · exact (s.keeps_failures _).trans (State.keeps_enterFailed _ order)
  · exact s.keeps_failures _

theorem State.keeps_countFailed : s.Keeps s.countFailed := by
  exact s.keeps_updCounters

theorem State.keeps_resolveJob (j : Job) : s.Keeps (s.resolveJob j) := by
  unfold State.resolveJob
  dsimp only
  refine (s.keeps_dropJob j).trans ?_
  split
  · refine State.Keeps.trans ?_ (State.keeps_giveBack _ _)
    refine State.Keeps.trans ?_ (State.keeps_report _ _ _)
    refine State.Keeps.trans ?_ (State.keeps_yieldCovered _ _ _)
    exact State.keeps_insertExtent _ _ _ _ _
  · exact (State.keeps_count _ _ _ _).trans (State.keeps_giveBack _ _)

theorem State.keeps_transactionOk (j : Job) : s.Keeps (s.transactionOk j) := by
  unfold State.transactionOk
  split
  · exact s.keeps_updJob j fun _ => rfl
  · split
    · exact s.keeps_updJob j fun _ => rfl
    · exact s.keeps_resolveJob j

theorem State.keeps_transactionFailed (j : Job) (order : List Nat) : s.Keeps (s.transactionFailed j order) :=
  (s.keeps_countFailed.trans (State.keeps_failJob _ j)).trans (State.keeps_countFailure _ order)

theorem State.keeps_transactionRetry (j : Job) (i : Nat) : s.Keeps (s.transactionRetry j i) := by
  unfold State.transactionRetry
  refine State.Keeps.trans ?_ (State.keeps_updCounters _)
  exact s.keeps_updJob j fun _ => rfl

theorem State.keeps_endRemoved (k : JobKind) (i : Nat) : s.Keeps (s.endRemoved k i) := by
  unfold State.endRemoved
  split
  · exact .refl s
  · exact s.keeps_giveBack i

theorem State.keeps_ignoredOutcome (r : Bool) (x : Status) (order : List Nat) : s.Keeps (s.ignoredOutcome r x order) := by
  unfold State.ignoredOutcome
  split
  · exact s.keeps_failures 0
  · split
    · exact s.keeps_countFailed
    · exact .refl s
  · exact s.keeps_countFailed.trans (State.keeps_countFailure _ order)

theorem State.keeps_endTransaction (tx : Transaction) (x : Status) (order : List Nat) :
    s.Keeps (s.endTransaction tx x order) := by
  unfold State.endTransaction
  split
  · split
    · next decides => exact s.keeps_enterUp (by simp [decides]) order
    · exact .refl s
  · exact s.keeps_ignoredOutcome _ _ _
  · exact (s.keeps_endRemoved _ _).trans (State.keeps_ignoredOutcome _ _ _ _)
  · split
    · exact s.keeps_ignoredOutcome _ _ _
    · split
      · exact (s.keeps_failures 0).trans (State.keeps_transactionOk _ _)
      · split
        · exact s.keeps_transactionFailed _ _
        · exact s.keeps_transactionRetry _ _
      · exact s.keeps_transactionFailed _ _

theorem State.keeps_complete (g : Tag) (x : Status) (order : List Nat) : s.Keeps (s.complete g x order) := by
  unfold State.complete
  split
  · exact (s.keeps_setTag g _).trans (State.keeps_endTransaction _ _ _ _)
  · exact s.keeps_updCounters

theorem State.keeps_timeOut (g : Tag) (order : List Nat) : s.Keeps (s.timeOut g order) := by
  unfold State.timeOut
  split
  · split
    · have retired : ∀ v, s.Keeps ((s.setTag g v).updCounters (fun c => { c with timeouts := bump c.timeouts 1 })) := by
        exact fun v => (s.keeps_setTag g v).trans (State.keeps_updCounters _)
      dsimp only
      split
      · exact retired _
      · exact (retired _).trans (State.keeps_endTransaction _ _ _ _)
    · exact .refl s
  · exact .refl s

theorem State.keeps_probe (g : Tag) : s.Keeps (s.probe g) := by
  unfold State.probe
  split
  · exact .refl s
  · next time _ =>
    have next : s.Keeps (s.updStore (fun st => { st with nextProbe := some (time + ms 100) })) :=
      s.keeps_updStore_aside rfl (fun c => by cases c <;> rfl) (fun c => by cases c <;> rfl)
    split
    · dsimp only
      split
      · split
        · exact next.trans (State.keeps_enterTraining _ _)
        · split
          · exact next
          · split
            · exact next
            · exact next.trans (State.keeps_setTag _ _ _)
      · exact next
    · exact .refl s

/-! ### Grants (R135 to R138) -/

@[simp] theorem Store.setCurrent_queue (st : Store) (c d : JobClass) (v : Int) : (st.setCurrent c v).queue d = st.queue d := by
  cases c <;> cases d <;> rfl

@[simp] theorem Store.setCurrent_current (st : Store) (c d : JobClass) (v : Int) :
    (st.setCurrent c v).current d = if d = c then v else st.current d := by
  cases c <;> cases d <;> rfl

@[simp] theorem Store.setCurrent_link (st : Store) (c : JobClass) (v : Int) : (st.setCurrent c v).link = st.link := by
  cases c <;> rfl

/-- A class with a ready job has one in its queue. -/
theorem State.queue_ne_nil_of_eligible {s : State} {c : JobClass} (h : s.eligible c = true) : s.store.queue c ≠ [] := by
  intro empty
  simp [State.eligible, Store.readyJob, empty] at h

theorem State.mem_eligibleClasses_iff (s : State) (c : JobClass) : c ∈ s.eligibleClasses ↔ s.eligible c = true := by
  cases c <;> simp [State.eligibleClasses]

theorem greatest_mem {v : JobClass → Int} {l : List JobClass} {c : JobClass} (h : greatest v l = some c) : c ∈ l := by
  induction l generalizing c with
  | nil => simp [greatest] at h
  | cons x xs ih =>
    unfold greatest at h
    split at h
    · simp_all
    · next d found =>
      split at h
      · exact List.mem_cons_of_mem x (Option.some.inj h ▸ ih found)
      · simp_all

theorem State.eligible_of_winner {s : State} {c : JobClass} (h : s.winner = some c) : s.eligible c = true := by
  rw [← s.mem_eligibleClasses_iff]
  unfold State.winner at h
  split at h
  · exact List.mem_of_mem_head? h
  · exact greatest_mem h

/-- A change of the current value of a class whose queue is not empty keeps the law. -/
theorem Store.queueLaw_setCurrent {st : Store} {c : JobClass} (some : st.queue c ≠ []) (v : Int)
    (h : ∀ d, st.queueLaw d) : ∀ d, (st.setCurrent c v).queueLaw d := by
  intro d
  obtain ⟨small, own, down, zero⟩ := h d
  refine ⟨by simpa using small, by simpa using own, by simpa using down, fun empty => ?_⟩
  have other : d ≠ c := by rintro rfl; exact some (by simpa using empty)
  simpa [other] using zero (by simpa using empty)

theorem Store.queueLaw_foldl_setCurrent (w : JobClass → Int) (l : List JobClass) (st : Store)
    (some : ∀ c ∈ l, st.queue c ≠ []) (h : ∀ d, st.queueLaw d) :
    let st' := l.foldl (fun st c => st.setCurrent c (st.current c + w c)) st
    (∀ d, st'.queue d = st.queue d) ∧ ∀ d, st'.queueLaw d := by
  induction l generalizing st with
  | nil => exact ⟨fun _ => rfl, h⟩
  | cons c cs ih =>
    have rest := ih (st.setCurrent c (st.current c + w c))
      (fun d hd => by simpa using some d (List.mem_cons_of_mem c hd))
      (Store.queueLaw_setCurrent (some c List.mem_cons_self) _ h)
    exact ⟨fun d => (rest.1 d).trans (Store.setCurrent_queue ..), rest.2⟩

theorem State.keeps_weigh {s : State} {c : JobClass} (won : s.eligible c = true) : s.Keeps (s.weigh c) := by
  unfold State.weigh
  split
  · exact .refl s
  · refine s.keeps_updStore fun lawful => ?_
    obtain ⟨queues, laws⟩ := Store.queueLaw_foldl_setCurrent (fun c => (s.opts.weight c : Int)) s.eligibleClasses s.store
      (fun d hd => State.queue_ne_nil_of_eligible ((s.mem_eligibleClasses_iff d).mp hd)) lawful
    exact Store.queueLaw_setCurrent (by rw [queues]; exact State.queue_ne_nil_of_eligible won) _ laws

theorem State.keeps_issueFrom (c : JobClass) (g : Tag) : s.Keeps (s.issueFrom c g) := by
  unfold State.issueFrom
  split
  · exact .refl s
  · split
    · have issued : ∀ (j : Job) rest o r a d, s.Keeps ((s.updJob j (fun x => { x with todo := rest })).issue g o r a d) :=
        fun j rest o r a d => State.Keeps.trans (u := s.updJob j (fun x => { x with todo := rest }))
          (s.keeps_updJob j fun _ => rfl) (State.keeps_setTag _ g _)
      dsimp only
      split
      · exact (issued _ _ _ _ _ _).trans
          (State.keeps_updStore_aside _ rfl (fun c => by cases c <;> rfl) (fun c => by cases c <;> rfl))
      · exact issued _ _ _ _ _ _
    · exact .refl s

theorem State.keeps_grantOnce (g : Tag) : s.Keeps (s.grantOnce g) := by
  unfold State.grantOnce
  split
  · next won _ => exact (State.keeps_weigh (State.eligible_of_winner won)).trans (State.keeps_issueFrom _ _ _)
  · exact .refl s

end Sys2Proof.Machine
end

section
/-! What the commands of the ports, the lane, the Browse Unit and the node states keep; then every command and every step. -/

namespace Sys2Proof.Machine

variable (s : State) (b : BindingNo)

/-! ### The browse decision (R155 to R161) -/

theorem State.keeps_setRing (slot : Nat) : s.Keeps (s.setRing b slot) := s.keeps_updBinding b ⟨id, id⟩

theorem State.keeps_stepThinning (f : FrameRecord) : s.Keeps (s.stepThinning f) := by
  unfold State.stepThinning
  split
  · exact ⟨⟨id, fun _ => .refl _, id, fun ⟨lane, own, thinning⟩ => ⟨lane, own, lfsrStep_ne_zero _ thinning⟩, id, id⟩, rfl, rfl⟩
  · exact .refl s

theorem State.keeps_decideBrowse (f : FrameRecord) : s.Keeps (s.decideBrowse b f) := by
  unfold State.decideBrowse
  dsimp only
  split
  · exact s.keeps_giveBack _
  · exact ((s.keeps_setRing b _).trans (State.keeps_count _ b _ _)).trans (State.keeps_giveBack _ _)
  · exact ((s.keeps_stepThinning f).trans (State.keeps_count _ b _ _)).trans (State.keeps_giveBack _ _)
  · exact ((s.keeps_stepThinning f).trans (State.keeps_setRing _ b _)).trans (State.keeps_handOver _ _)

theorem State.keeps_browseNext : s.Keeps (s.browseNext b) := by
  unfold State.browseNext
  split
  · split
    · exact .refl s
    · have popped : ∀ l, s.Keeps (s.updBinding b (fun r => { r with undecided := l })) :=
        fun l => s.keeps_updBinding b ⟨id, id⟩
      dsimp only
      split
      · exact popped _
      · exact (popped _).trans (State.keeps_decideBrowse _ b _)
  · exact .refl s

theorem State.keeps_updateOccupancy : s.Keeps s.updateOccupancy := ⟨⟨id, fun _ => .refl _, id, id, id, id⟩, rfl, rfl⟩

/-! ### The Source Table and the ports (R25 to R41) -/

theorem State.keeps_offerSource (e : SourceEntry) (x : SourceEvent) : s.Keeps (s.offerSource e x) := by
  unfold State.offerSource
  split
  · exact s.keeps_offer _
  · exact .refl s

theorem State.keeps_leaveSets (p : PortNo) (order : List Nat) : s.Keeps (s.leaveSets p order) :=
  (s.keeps_sources _).trans (.foldl (fun s e => s.keeps_offerSource e _) _ _)

theorem State.keeps_entryPiece (e : SourceEntry) (p : PortNo) (piece : Piece) : s.Keeps (s.entryPiece e p piece) := by
  have heard : ∀ e', s.Keeps (s.updEntry e.source e.stream (fun _ => e')) := fun _ => s.keeps_sources _
  unfold State.entryPiece
  dsimp only
  split
  · split
    · exact heard _
    · exact (heard _).trans (State.keeps_offerSource _ _ _)
  · refine State.Keeps.trans ?_ (State.keeps_routePiece _ _ _)
    split <;> split
    · exact heard _
    · exact (heard _).trans (State.keeps_offerSource _ _ _)
    · exact (heard _).trans (State.keeps_recomputeGrade _ _)
    · exact ((heard _).trans (State.keeps_offerSource _ _ _)).trans (State.keeps_recomputeGrade _ _)

theorem State.keeps_learn (p : PortNo) (piece : Piece) : s.Keeps (s.learn p piece) := by
  unfold State.learn
  split
  · exact (s.keeps_sources _).trans (State.keeps_offerSource _ _ _)
  · exact s.keeps_updCounters

theorem State.keeps_admitPiece (p : PortNo) (piece : Piece) : s.Keeps (s.admitPiece p piece) := by
  unfold State.admitPiece
  split
  · split
    · exact s.keeps_entryPiece _ p piece
    · exact s.keeps_learn p piece
  · exact .refl s

theorem State.keeps_ageOut (src : SourceId) (stream : BitVec 8) : s.Keeps (s.ageOut src stream) := by
  unfold State.ageOut
  split
  · exact .refl s
  · split
    · exact (s.keeps_sources _).trans (State.keeps_offerSource _ _ _)
    · exact .refl s

theorem State.keeps_signalOn (p : PortNo) : s.Keeps (s.signalOn p) := by
  unfold State.signalOn
  dsimp only
  split
  · exact State.Keeps.trans (u := s.updPort p _) (s.keeps_updPort p id id) (State.keeps_updPort _ p id id)
  · exact s.keeps_updPort p id id

theorem State.keeps_signalOff (p : PortNo) (order : List Nat) : s.Keeps (s.signalOff p order) := by
  unfold State.signalOff
  dsimp only
  split
  · refine State.Keeps.trans ?_ (State.keeps_leaveSets _ p order)
    refine State.Keeps.trans ?_ (State.keeps_updPort _ p id fun _ => bump_le _ _)
    exact s.keeps_updPort p id id
  · exact s.keeps_updPort p id id

theorem State.keeps_badPiece (p : PortNo) (order : List Nat) : s.Keeps (s.badPiece p order) := by
  unfold State.badPiece
  split
  · exact .refl s
  · exact s.keeps_updPort p (fun _ => bump_le _ _) id
  · dsimp only
    split
    · refine State.Keeps.trans ?_ (State.keeps_leaveSets _ p order)
      refine State.Keeps.trans ?_ (State.keeps_updPort _ p id fun _ => bump_le _ _)
      exact s.keeps_updPort p (fun _ => bump_le _ _) id
    · exact s.keeps_updPort p (fun _ => bump_le _ _) id

theorem State.keeps_goodPiece (p : PortNo) (piece : Piece) : s.Keeps (s.goodPiece p piece) := by
  unfold State.goodPiece
  split
  · exact .refl s
  · split
    · refine State.Keeps.trans ?_ (State.keeps_admitPiece _ p piece)
      exact s.keeps_updPort p id id
    · exact s.keeps_updPort p id id
  · refine State.Keeps.trans ?_ (State.keeps_admitPiece _ p piece)
    exact s.keeps_updPort p id id

/-! ### The transmitter (R167 to R170, R180) -/

theorem Lane.popped_bounded {l : Lane} (h : l.bounded) : l.popped.bounded := by
  obtain ⟨small, -, -⟩ := h
  refine ⟨(List.drop_sublist 1 l.queue).length_le.trans small, ?_, (by decide : 0 < Config.maxCollisions)⟩
  by_cases empty : l.queue.drop 1 = [] <;> simp [Lane.popped, empty]

theorem State.keeps_popped : s.Keeps (s.updLane Lane.popped) := s.keeps_updLane Lane.popped_bounded id

theorem State.keeps_noticeOut : s.Keeps s.noticeOut := by
  unfold State.noticeOut
  split
  · exact s.keeps_popped.trans (State.keeps_updCounters _)
  · exact .refl s

/-- A transmitter that is not IDLE enters another state than IDLE, its queue and attempts kept within their bounds. -/
theorem Lane.bounded_of_busy {l : Lane} (h : l.bounded) (busy : l.tx ≠ .idle) {x : TransmitterState} (hx : x ≠ .idle)
    {n : Nat} (hn : n < Config.maxCollisions) : ({ l with tx := x, attempts := n } : Lane).bounded :=
  ⟨h.1, iff_of_false hx (h.2.1.not.mp busy), hn⟩

theorem State.keeps_collide : s.Keeps s.collide := by
  unfold State.collide
  split
  · next sending =>
    have counted : s.Keeps (s.updCounters (fun c => { c with collisions := bump c.collisions 1 })) := by
      exact s.keeps_updCounters
    dsimp only
    refine counted.trans ?_
    split
    · exact State.keeps_popped _
    · split
      · exact (State.keeps_popped _).trans (State.keeps_updCounters _)
      · next few =>
        exact State.keeps_updLane _ (fun h => Lane.bounded_of_busy h (by simp [sending]) (by simp) (not_le.mp few)) id
  · exact .refl s

theorem State.keeps_drawHoldoff (deferring : s.lane.tx = .defer) : s.Keeps (s.updLane Lane.drawHoldoff) := by
  have drawn : ∀ l : Lane, l.bounded → l.tx = .defer → l.drawHoldoff.bounded := by
    intro l h hl
    have busy : l.tx ≠ .idle := by simp [hl]
    unfold Lane.drawHoldoff
    dsimp only
    split
    · exact Lane.bounded_of_busy h busy (by simp) h.2.2
    · exact Lane.bounded_of_busy h busy (by split <;> simp) h.2.2
  refine s.keeps_updLane (fun h => drawn _ h deferring) fun own => ?_
  unfold Lane.drawHoldoff
  dsimp only
  split
  · exact own
  · exact lfsrStep_ne_zero _ own

theorem State.keeps_leaveHoldoff {x : TransmitterState} (hx : x ≠ .idle) : s.Keeps (s.leaveHoldoff x) := by
  unfold State.leaveHoldoff
  split
  · next held => exact s.keeps_updLane (fun h => Lane.bounded_of_busy h (by simp [held]) hx h.2.2) id
  all_goals exact .refl s

theorem State.keeps_announce : s.Keeps s.announce :=
  (s.keeps_offer _).trans (State.keeps_updLane _ id id)

theorem State.keeps_presenceDue : s.Keeps s.presenceDue := by
  unfold State.presenceDue
  split
  · exact .refl s
  · split
    · exact (s.keeps_offer _).trans (State.keeps_updLane _ id id)
    · exact .refl s

/-! ### The node states (R188 to R194) -/

theorem State.keeps_darkenPorts : s.Keeps s.darkenPorts :=
  State.Keeps.trans (.foldl (fun s p => s.keeps_updPort p id id) _ s) (State.keeps_sources _ _)

theorem State.keeps_enterListening : s.Keeps s.enterListening := by
  unfold State.enterListening
  dsimp only
  refine State.Keeps.trans (u := { s with node := .listening, fltn := true })
    ⟨⟨id, fun _ => .refl _, id, id, id, fun _ => by simp [State.fltnAgrees]⟩, rfl, rfl⟩ ?_
  refine State.Keeps.trans (State.keeps_abortAll _) (State.Keeps.trans (State.keeps_darkenPorts _) ?_)
  exact State.keeps_updLane _ (fun _ => ⟨Nat.zero_le _, by simp, (by decide : 0 < Config.maxCollisions)⟩) id

theorem State.keeps_startPorts : s.Keeps s.startPorts := by
  refine .foldl (fun s p => ?_) _ s
  split
  · exact s.keeps_updPort p id id
  · exact .refl s

/-- A seed is never 0 (R159, R168). -/
theorem lfsrSeed_ne_zero {constant : BitVec 16} (h : constant ≠ 0) (x : Station) : lfsrSeed constant x ≠ 0 := by
  unfold lfsrSeed
  dsimp only
  split <;> assumption

theorem State.keeps_loadOptions (loading : s.node = .loading) (bytes : List Byte) : s.Keeps (s.loadOptions bytes) := by
  unfold State.loadOptions
  dsimp only
  split
  · refine State.Keeps.trans ?_ (State.keeps_announce _)
    refine State.Keeps.trans ?_ (State.keeps_startPorts _)
    refine ⟨⟨id, fun _ => .refl _, id, fun ⟨lane, _, _⟩ => ⟨lane, ?_, ?_⟩, id, fun h => ?_⟩, rfl, rfl⟩
    · exact lfsrSeed_ne_zero (by decide) _
    · exact lfsrSeed_ne_zero (by decide) _
    · simpa [State.fltnAgrees, loading] using h
  · exact s.keeps_enterListening

theorem State.keeps_takeRestart (running : s.node = .running) : s.Keeps s.takeRestart := by
  unfold State.takeRestart
  dsimp only
  refine State.Keeps.trans ?_ (State.keeps_announce _)
  refine State.Keeps.trans ?_ (State.keeps_abortAll _)
  refine State.Keeps.trans (u := { s with node := .restarting })
    ⟨⟨id, fun _ => .refl _, id, id, id, fun h => by simpa [State.fltnAgrees, running] using h⟩, rfl, rfl⟩ ?_
  exact State.keeps_updCounters _

theorem Lane.clearAtRestart_bounded {l : Lane} (h : l.bounded) : l.clearAtRestart.bounded := by
  obtain ⟨-, idle, -⟩ := h
  unfold Lane.clearAtRestart
  split
  · next sending =>
    have some : l.queue ≠ [] := idle.not.mp (by simp [sending])
    refine ⟨?_, iff_of_false (by simp [sending]) ?_, (by decide : 0 < Config.maxCollisions)⟩
    · simp only [Lane.locked, sending, if_true, List.length_take, Config.queueNotices]
      omega
    · simpa [Lane.locked, sending] using some
  · exact ⟨Nat.zero_le _, by simp, (by decide : 0 < Config.maxCollisions)⟩

theorem foldl_becomeIdle_node (l : List BindingNo) (s : State) :
    (l.foldl (fun s b => s.becomeIdle b) s).node = s.node := by
  induction l generalizing s with
  | nil => rfl
  | cons b bs ih => exact ih (s.becomeIdle b)

theorem State.keeps_endRestart (restarting : s.node = .restarting) : s.Keeps s.endRestart := by
  unfold State.endRestart
  dsimp only
  refine State.Keeps.trans ?_ (State.keeps_announce _)
  refine State.Keeps.trans (u := s.busyBindings.foldl (fun s b => s.becomeIdle b) s) (.foldl (fun s b => s.keeps_becomeIdle b) _ s) ?_
  have node := (foldl_becomeIdle_node s.busyBindings s).trans restarting
  refine ⟨⟨fun _ => ⟨rfl, Nat.zero_le _, .nil⟩, fun _ => .refl _, id, fun ⟨lane, own, thinning⟩ => ⟨?_, ?_, thinning⟩,
    fun _ c => ?_, fun h => ?_⟩, rfl, rfl⟩
  · exact Lane.clearAtRestart_bounded lane
  · change Lane.lfsr (Lane.clearAtRestart _) ≠ 0
    unfold Lane.clearAtRestart
    split <;> exact own
  · cases c <;> simp [Store.queueLaw, Store.queue, Store.current]
  · simpa [State.fltnAgrees, node] using h

/-! ### Cold reset (R188) -/

/-- The state that a cold reset makes of another, whose waiting commands stay. -/
def State.coldReset (s : State) : State := { State.reset with pending := s.pending }

theorem State.coldReset_binding (b : BindingNo) : s.coldReset.binding b = {} := by
  simp [State.binding, State.coldReset, State.reset]

theorem State.coldReset_port (p : PortNo) : s.coldReset.port p = {} := by
  simp [State.port, State.coldReset, State.reset]

theorem State.coldReset_tag (g : Tag) : s.coldReset.tag g = .free := by
  simp [State.tag, State.coldReset, State.reset]

theorem State.coldReset_poolWhole : s.coldReset.poolWhole := ⟨rfl, Nat.zero_le _, .nil⟩

theorem State.coldReset_metersBounded : s.coldReset.metersBounded := fun b => by
  rw [State.coldReset_binding]
  exact ⟨le_refl 0, le_refl 0⟩

theorem State.coldReset_sized : (s.coldReset.binding b).sized := by
  rw [State.coldReset_binding]
  refine ⟨⟨(Nat.zero_min _).symm, le_refl 0, rfl, Nat.zero_le _⟩, ⟨trivial, Nat.zero_le _, Nat.zero_le _, Nat.zero_le _⟩, ?_⟩
  simp [Binding.countersBounded, BindingCounters.list]

theorem State.coldReset_talliesBounded : s.coldReset.talliesBounded :=
  ⟨fun p => by simp [State.coldReset_port], by simp [NodeCounters.list, State.coldReset, State.reset]⟩

theorem State.coldReset_laneBounded : s.coldReset.laneBounded :=
  ⟨⟨Nat.zero_le _, by simp [State.coldReset, State.reset], (by decide : 0 < Config.maxCollisions)⟩,
    (by decide : Config.holdoffSeed ≠ 0), (by decide : Config.thinningSeed ≠ 0)⟩

theorem State.coldReset_queuesLawful : s.coldReset.queuesLawful := fun c => by
  cases c <;> simp [Store.queueLaw, Store.queue, Store.current, State.coldReset, State.reset]

theorem State.coldReset_fltnAgrees : s.coldReset.fltnAgrees := by
  simp [State.fltnAgrees, State.coldReset, State.reset]

theorem State.keepsLaws_coldReset : s.KeepsLaws s.coldReset where
  pool _ := s.coldReset_poolWhole
  bindings b := ⟨fun _ => s.coldReset_metersBounded b, fun _ => s.coldReset_sized b⟩
  tallies _ := s.coldReset_talliesBounded
  lane _ := s.coldReset_laneBounded
  queues _ := s.coldReset_queuesLawful
  fltn _ := s.coldReset_fltnAgrees

/-! ### Reception (R171 to R174) -/

theorem State.keeps_receive (x : Station) (k : Byte) (body : List Byte) {deliver : State → State}
    (h : s.Keeps (deliver s)) : s.Keeps (s.receive x k body deliver) := by
  unfold State.receive
  split
  · split
    · exact .refl s
    · split
      · exact s.keeps_enterListening
      · exact h
  · exact .refl s

theorem State.keeps_hearUndelivered (bytes : List Byte) : s.Keeps (s.hearUndelivered bytes) := by
  unfold State.hearUndelivered
  split
  · split
    · exact .refl s
    · exact .refl s
    · exact s.keeps_updCounters
    · exact s.keeps_updCounters
    · exact s.keeps_receive _ _ _ (.refl s)
  · exact .refl s

/-! ### Every command, every step -/

theorem exec_coldReset (s : State) : exec .coldReset s = .next s.coldReset := rfl

theorem State.keepsLaws_atTime (t : Time) : s.KeepsLaws (s.atTime t) := ⟨id, fun _ => .refl _, id, id, id, id⟩

/-- COLD_RESET alone carries no time. -/
theorem Instr.time?_eq_none_iff (i : Instr) : i.time? = none ↔ i = .coldReset := by
  cases i <;> simp [Instr.time?]

/-- Every command completes. -/
theorem exec_completes (i : Instr) (s : State) : ∃ u, exec i s = .next u := by
  cases i <;> exact ⟨_, rfl⟩

/-- A command that carries a time keeps everything from the state with that time on. -/
theorem exec_keeps_of_time {i : Instr} {t : Time} (ht : i.time? = some t) {s u : State} (h : exec i s = .next u) :
    (s.atTime t).Keeps u := by
  cases i
  case coldReset => cases ht
  all_goals
    obtain rfl := Option.some.inj ht
    obtain rfl := Host.Outcome.next.inj h
  case optionLoad t bytes =>
    split
    · next loading => exact State.keeps_loadOptions _ loading _
    · exact .refl _
  case signalPresent => exact State.keeps_signalOn _ _
  case signalLost => exact State.keeps_signalOff _ _ _
  case payloadLengthBad =>
    split
    · exact .refl _
    · exact State.keeps_badPiece _ _ _
  case pieceFramed =>
    split
    · split
      · exact State.keeps_goodPiece _ _ _
      · exact State.keeps_badPiece _ _ _
    · exact .refl _
  case slotDeadline => exact State.keeps_slotDeadline _ _ _
  case meterCredit =>
    split
    · exact State.keeps_creditAll _
    · exact .refl _
  case bindingSilent =>
    split
    · exact State.keeps_fallSilent _ _
    · exact .refl _
  case sourceAgeOut =>
    split
    · exact State.keeps_ageOut _ _ _
    · exact .refl _
  case takerExpiry =>
    split
    · exact State.keeps_expireTaker _ _ _
    · exact .refl _
  case occupancyUpdate =>
    split
    · exact State.keeps_updateOccupancy _
    · exact .refl _
  case settleDeadline => exact State.keeps_settle _ _
  case takeTime => exact State.keeps_takeDue _ _
  case holdDeadline => exact State.keeps_holdDue _ _
  case extentTime => exact State.keeps_extentDue _ _
  case hrefPulse =>
    split
    · exact State.keeps_updHouse _ _
    · exact .refl _
  case freeRunEntry =>
    split
    · exact State.Keeps.trans (State.keeps_updHouse _ _) (State.keeps_updCounters _)
    · exact .refl _
  case internalHouseFrame =>
    split
    · exact State.keeps_updHouse _ _
    · exact .refl _
  case record t x req order =>
    refine State.keeps_receive _ _ _ _ ?_
    split
    · exact State.keeps_considerRecord _ req order
    · exact .refl _
  case stop => exact State.keeps_receive _ _ _ _ (State.keeps_stopClip _ _ _)
  case immediateStop => exact State.keeps_receive _ _ _ _ (State.keeps_stopClip _ _ _)
  case abort => exact State.keeps_receive _ _ _ _ (State.keeps_abortClip _ _)
  case drainEnd => exact State.keeps_endDrain _ _
  case bindingQuiet => exact State.keeps_becomeQuiet _ _
  case doneQueued => exact State.keeps_queueDone _ _
  case queryBinding => exact State.keeps_receive _ _ _ _ (State.keeps_answerQuery _ _ _)
  case queryNode => exact State.keeps_receive _ _ _ _ (State.keeps_answerQuery _ _ _)
  case restart =>
    refine State.keeps_receive _ _ _ _ ?_
    split
    · next named => exact State.keeps_takeRestart _ named.1
    · exact .refl _
  case restartEnd =>
    split
    · next ended => exact State.keeps_endRestart _ ended.1
    · exact .refl _
  case take => exact State.keeps_receive _ _ _ _ (State.keeps_peerTake _ _ _ _)
  case extent => exact State.keeps_receive _ _ _ _ (State.keeps_peerExtent _ _ _ _ _)
  case done => exact State.keeps_receive _ _ _ _ (State.keeps_peerDone _ _ _)
  case noticeNotDelivered => exact State.keeps_hearUndelivered _ _
  case idleGap =>
    split
    · next deferring => exact State.keeps_drawHoldoff _ deferring
    · exact .refl _
  case holdoffEnd => exact State.keeps_leaveHoldoff _ (by simp)
  case holdoffGivenUp => exact State.keeps_leaveHoldoff _ (by simp)
  case noticeSent => exact State.keeps_noticeOut _
  case collision => exact State.keeps_collide _
  case presenceTime => exact State.keeps_presenceDue _
  case browseDecision => exact State.keeps_browseNext _ _
  case grant => exact State.keeps_grantOnce _ _
  case pacingHoldEnd =>
    split
    · exact .refl _
    · split
      · exact State.keeps_updStore_aside _ rfl (fun c => by cases c <;> rfl) (fun c => by cases c <;> rfl)
      · exact .refl _
  case storeCompletion => exact State.keeps_complete _ _ _ _
  case storeTimeout => exact State.keeps_timeOut _ _ _
  case tagRetirementEnd =>
    split
    · exact .refl _
    · exact .refl _
    · split
      · exact State.keeps_setTag _ _ _
      · exact .refl _
  case srdynHigh => exact State.keeps_enterTraining _ _
  case linkUp =>
    split
    · next trained => exact State.keeps_enterUp _ (by rw [trained.1]; decide) _
    · exact .refl _
  case probeTime => exact State.keeps_probe _ _

/-- A command keeps every law. -/
theorem exec_keeps (i : Instr) {s u : State} (h : exec i s = .next u) : s.KeepsLaws u := by
  cases ht : i.time? with
  | none =>
    obtain rfl := (Instr.time?_eq_none_iff i).mp ht
    obtain rfl := Host.Outcome.next.inj h
    exact s.keepsLaws_coldReset
  | some t => exact (s.keepsLaws_atTime t).trans (exec_keeps_of_time ht h).toKeepsLaws

theorem step_keeps {s u : State} (h : step s = .next u) : s.KeepsLaws u := by
  unfold step at h
  split at h
  · cases h
    exact s.keepsLaws_atTime (s.now + 1)
  · next c rest _ =>
    exact State.KeepsLaws.trans (u := { s with pending := rest }) ⟨id, fun _ => .refl _, id, id, id, id⟩ (exec_keeps c h)

/-- Settles O53: every update of the frame table and the free list moves cells between the two. -/
theorem poolIsKept : Obligations.PoolIsKept := fun _ _ whole h => (step_keeps h).pool whole

/-- Settles O54: a record is debited within its buckets, credited up to their sizes, or starts with them full. -/
theorem metersAreKept : Obligations.MetersAreKept := fun _ _ bounded h b => ((step_keeps h).bindings b).meter (bounded b)

/-- Settles O56: each binding keeps its own sizes, and the node and its ports keep their counters. -/
theorem sizesAreKept : Obligations.SizesAreKept := by
  rintro s u ends coord ⟨binding, ports, node⟩ h
  have keeps := step_keeps h
  have sized : ∀ b, (u.binding b).sized := fun b => (keeps.bindings b).sizes ⟨ends b, coord b, binding b⟩
  obtain ⟨ports', node'⟩ := keeps.tallies ⟨ports, node⟩
  exact ⟨fun b => (sized b).1, fun b => (sized b).2.1, fun b => (sized b).2.2, ports', node'⟩

/-- Settles O57: the lane, the class queues and FLTN each keep their law. -/
theorem queuesAreKept : Obligations.QueuesAreKept := fun _ _ lane queues fltn h =>
  have keeps := step_keeps h
  ⟨keeps.lane lane, keeps.queues queues, keeps.fltn fltn⟩

/-- Settles O51: every command but COLD_RESET keeps the waiting commands and the clock from the state with its time on. -/
theorem stepTakesFront : Obligations.StepTakesFront := by
  refine ⟨fun c rest s => rfl, fun s none_waits => ?_, fun c s => ?_⟩
  · simp only [step, none_waits, State.idle]
  · obtain ⟨u, h⟩ := exec_completes c s
    cases ht : c.time? with
    | none =>
      obtain rfl := (Instr.time?_eq_none_iff c).mp ht
      obtain rfl := Host.Outcome.next.inj h
      exact ⟨_, rfl, rfl, fun t k => nomatch k⟩
    | some t =>
      have keeps := exec_keeps_of_time ht h
      exact ⟨u, h, keeps.pending, fun t' k => by cases k; exact keeps.now⟩

/-- Settles O52: the laws of the state that a cold reset makes of the reset state, which is the reset state itself. -/
theorem resetIsLawful : Obligations.ResetIsLawful :=
  let s := State.reset
  ⟨s.coldReset_poolWhole, s.coldReset_metersBounded, (State.tableLawful_iff _).mpr (State.reset_lawful s),
    fun b => (s.coldReset_sized b).1, fun b => (s.coldReset_sized b).2.1,
    ⟨fun b => (s.coldReset_sized b).2.2, s.coldReset_talliesBounded⟩, s.coldReset_laneBounded, s.coldReset_queuesLawful,
    s.coldReset_fltnAgrees, rfl, rfl⟩

/-- Settles O1: every part of the state that a cold reset makes is the one of the reset state. -/
theorem coldResetValues : Obligations.ColdResetValues := by
  intro s
  refine ⟨s.coldReset, rfl, rfl, rfl, rfl, rfl, fun b => ?_, fun p => ?_, rfl, rfl, rfl, rfl, rfl, fun c => ?_,
    s.coldReset_tag, rfl, rfl, rfl, rfl, rfl, rfl, rfl, rfl, rfl, rfl⟩
  · rw [State.coldReset_binding]
    exact ⟨rfl, rfl, rfl, rfl, rfl, fun k => Vector.getElem_replicate _⟩
  · rw [State.coldReset_port]
    exact ⟨rfl, rfl, rfl⟩
  · cases c <;> exact ⟨rfl, rfl⟩

end Sys2Proof.Machine
end

section
/-! Reading what the commands carry: the clamps of the option record (R190) and of a request (R7), field by field. -/

namespace Sys2Proof.Machine

theorem clampTo_one_eq (hi x : Nat) (h : 1 ≤ hi) : clampTo 1 hi x = if x = 0 then 1 else if hi < x then hi else x := by
  simp only [clampTo_eq 1 hi x h, Nat.lt_one_iff]

theorem min_eq_if (hi x : Nat) : min hi x = if hi < x then hi else x := by
  split <;> omega

theorem getElem?_map_range {f : Nat → Nat} {n i : Nat} (h : i < n) : ((List.range n).map f)[i]? = some (f i) := by
  simp [h]

/-- Settles O3: each field of the record read is the clamp of its own value. -/
theorem optionsAreClamped : Obligations.OptionsAreClamped := by
  intro bytes v o
  refine ⟨rfl, ?enables, ?age, ?store, ?live, ?fill, ?browse, ?strict, rfl, ?window, ?margin, ?taker, ?presence, ?extent,
    ?house, fun i hi => ?grades, fun i hi => ?thinning, ?gradesLength, ?thinningLength⟩
  case enables => exact BitVec.toNat_ofNat _ _
  case strict =>
    change decide (v 8 1 ≠ 0) = _
    split <;> simp [*]
  case margin => exact min_eq_if 7 _
  case taker => exact clampTo_eq _ _ _ (by decide)
  case presence => exact clampTo_eq _ _ _ (by decide)
  case house => exact clampTo_eq _ _ _ (by decide)
  case grades => rw [← min_eq_if]; exact getElem?_map_range hi
  case thinning => rw [← min_eq_if]; exact getElem?_map_range hi
  case gradesLength => simp [o, readOptions]
  case thinningLength => simp [o, readOptions]
  all_goals exact clampTo_one_eq _ _ (by decide)

theorem clampDivisor_eq (d : Nat) : clampDivisor d = if d = 0 then 1 else if 64 < d then 64 else d := by
  rw [clampDivisor, Nat.min_comm, min_eq_if]

theorem clampCbs_eq (slotCells cbs : Nat) :
    clampCbs slotCells cbs =
      if 67108864 < max cbs (slotCells * 1024) then 67108864
      else if cbs < slotCells * 1024 then slotCells * 1024 else cbs := by
  simp only [clampCbs, Config.cellBytes]
  split_ifs <;> omega

theorem clampPatience_eq (p : Nat) :
    clampPatience p =
      if p = 0 then none else if p < 2000 then some 2000 else if 1000000 < p then some 1000000 else some p := by
  simp only [clampPatience, clampTo_eq 2000 1000000 p (by decide), apply_ite some]

/-- Settles O30: each clamped field of the terms is the clamp of its own value, the others are as received. -/
theorem requestIsClamped : Obligations.RequestIsClamped := by
  rintro r t rfl
  refine ⟨clampDivisor_eq _, rfl, min_eq_if _ _, clampCbs_eq _ _, min_eq_if _ _, clampPatience_eq _, ?browseBase, rfl, rfl,
    rfl, rfl, rfl, rfl, rfl, rfl, rfl, rfl, rfl, rfl⟩
  case browseBase =>
    change (if clampBrowseCells _ = 0 then _ else _) = _
    unfold clampBrowseCells
    split
    · simp
    · next many => rw [if_neg (by omega)]

end Sys2Proof.Machine
end

section
/-! Which binding a search over the records finds: the lowest-numbered one that passes the test, and the only one where no
two pass it (R11, R20, R21). -/

namespace Sys2Proof.Machine

variable {s : State} {b : BindingNo} {clip : Clip}

theorem find?_eq_some_iff_of_unique {α : Type} {l : List α} {p : α → Bool} {x : α}
    (unique : x ∈ l → ∀ y ∈ l, p y = true → p x = true → y = x) : l.find? p = some x ↔ x ∈ l ∧ p x = true := by
  refine ⟨fun h => ⟨List.mem_of_find?_eq_some h, List.find?_some h⟩, fun ⟨mem, holds⟩ => ?_⟩
  obtain ⟨y, hy⟩ := Option.isSome_iff_exists.mp (List.find?_isSome.mpr ⟨x, mem, holds⟩)
  rw [hy, unique mem y (List.mem_of_find?_eq_some hy) (List.find?_some hy) holds]

theorem getElem_allBindings (i : Nat) (h : i < allBindings.length) : allBindings[i] = ⟨i, h⟩ := by
  have all : ∀ i : Fin 16, allBindings[i.val]'i.isLt = i := by decide
  exact all ⟨i, h⟩

/-- A search over the binding numbers finds the lowest one that passes. -/
theorem find?_allBindings_eq_some_iff {p : BindingNo → Bool} :
    allBindings.find? p = some b ↔ p b = true ∧ ∀ b' < b, p b' = false := by
  rw [List.find?_eq_some_iff_getElem]
  constructor
  · rintro ⟨holds, i, hi, rfl, before⟩
    refine ⟨holds, fun b' lt => ?_⟩
    rw [getElem_allBindings] at lt
    simpa [getElem_allBindings] using before b'.val lt
  · rintro ⟨holds, before⟩
    refine ⟨holds, b.val, b.isLt, getElem_allBindings _ _, fun j hj => ?_⟩
    simpa [getElem_allBindings] using before ⟨j, by omega⟩ hj

theorem find?_allBindings_eq_none_iff {p : BindingNo → Bool} : allBindings.find? p = none ↔ ∀ b, p b = false := by
  simp [mem_allBindings]

theorem State.isActive_iff : s.isActive b = true ↔ (s.binding b).state.active = true := .rfl

theorem BindingState.ne_idle_of_active {x : BindingState} (h : x.active = true) : x ≠ .idle := by
  rintro rfl
  cases h

/-- What the search for the active binding of a clip finds. -/
theorem State.records_of_activeFor (h : s.activeFor clip = some b) : s.records b clip := by
  have mem := List.mem_of_find?_eq_some h
  rw [State.mem_activeBindings_iff] at mem
  exact ⟨mem, by simpa using List.find?_some h⟩

/-- No two bindings that are not IDLE hold one clip (R11). -/
theorem State.tableLawful.unique (h : s.tableLawful) {x : BindingNo} (hx : (s.binding x).state ≠ .idle)
    (hb : (s.binding b).state ≠ .idle) (clips : (s.binding x).clip = (s.binding b).clip) : x = b := by
  obtain ⟨-, -, -, -, distinct⟩ := h
  by_contra ne
  exact distinct x b ne hx hb clips

theorem State.activeFor_eq_some_iff (h : s.tableLawful) : s.activeFor clip = some b ↔ s.records b clip := by
  refine (find?_eq_some_iff_of_unique fun mem x mem' hx hb => ?_).trans ?_
  · rw [State.mem_activeBindings_iff] at mem mem'
    rw [decide_eq_true_eq] at hx hb
    exact h.unique (BindingState.ne_idle_of_active mem') (BindingState.ne_idle_of_active mem) (hx.trans hb.symm)
  · rw [State.mem_activeBindings_iff, decide_eq_true_eq]
    exact .rfl

/-- What the search for the binding that is not IDLE and has a clip finds. -/
theorem State.find?_busyBindings_eq_some_iff (h : s.tableLawful) :
    s.busyBindings.find? (fun b => (s.binding b).clip = some clip) = some b ↔
      (s.binding b).state ≠ .idle ∧ (s.binding b).clip = some clip := by
  refine (find?_eq_some_iff_of_unique fun mem x mem' hx hb => ?_).trans ?_
  · rw [State.mem_busyBindings_iff, State.claimOf_ne_none_iff] at mem mem'
    rw [decide_eq_true_eq] at hx hb
    exact h.unique mem' mem (hx.trans hb.symm)
  · rw [State.mem_busyBindings_iff, State.claimOf_ne_none_iff, decide_eq_true_eq]

theorem State.find?_busyBindings_eq_none_iff :
    s.busyBindings.find? (fun b => (s.binding b).clip = some clip) = none ↔
      ∀ b : BindingNo, (s.binding b).state ≠ .idle → (s.binding b).clip ≠ some clip := by
  simp [State.busyBindings, mem_allBindings]

theorem State.holderOf_eq_some_iff (h : s.tableLawful) :
    s.holderOf clip = some b ↔
      (s.binding b).state ≠ .idle ∧ (s.binding b).clip = some clip ∨
      (∀ b' : BindingNo, (s.binding b').state ≠ .idle → (s.binding b').clip ≠ some clip) ∧ (s.binding b).state = .idle ∧
        (s.binding b).clip = some clip ∧
        ∀ b' < b, ¬ ((s.binding b').state = .idle ∧ (s.binding b').clip = some clip) := by
  unfold State.holderOf
  split
  · next x found =>
    have holds := (State.find?_busyBindings_eq_some_iff h).mp found
    rw [← found, State.find?_busyBindings_eq_some_iff h]
    refine ⟨.inl, ?_⟩
    rintro (here | ⟨nowhere, -⟩)
    · exact here
    · exact absurd holds.2 (nowhere x holds.1)
  · next found =>
    have nowhere := State.find?_busyBindings_eq_none_iff.mp found
    rw [find?_allBindings_eq_some_iff]
    simp only [decide_eq_true_eq, decide_eq_false_iff_not, and_assoc]
    refine ⟨fun idle => .inr ⟨nowhere, idle⟩, ?_⟩
    rintro (⟨busy, here⟩ | ⟨-, idle⟩)
    · exact absurd here (nowhere b busy)
    · exact idle

/-- Settles O33: the search over the active bindings finds the only one that has the clip, and the one over all records that
is not IDLE, or else the lowest that is IDLE. -/
theorem clipNamesOneBinding : Obligations.ClipNamesOneBinding := fun _ _ _ h =>
  ⟨State.activeFor_eq_some_iff h, State.holderOf_eq_some_iff h⟩

end Sys2Proof.Machine
end

section
/-! Changes of one binding record composed, and the operations that are such a change: counting, colouring and regrading
(R23, R85, R92). -/

namespace Sys2Proof.Machine

variable {s : State} {b : BindingNo}

@[simp] theorem State.atTime_binding (s : State) (t : Time) (b : BindingNo) : (s.atTime t).binding b = s.binding b := rfl

/-! ### Changes of one record -/

theorem State.updBinding_updBinding (f g : Binding → Binding) :
    (s.updBinding b f).updBinding b g = s.updBinding b (fun r => g (f r)) := by
  have read : (s.updBinding b f).binding b = f (s.binding b) := by simp
  conv_lhs => rw [State.updBinding, read, State.updBinding, Vector.set_set]
  rfl

/-- A change of a record is what it makes of the record as it stands. -/
theorem State.updBinding_congr {f g : Binding → Binding} (h : f (s.binding b) = g (s.binding b)) :
    s.updBinding b f = s.updBinding b g := by
  simp only [State.updBinding, h]

theorem State.updBinding_of_eq {f : Binding → Binding} {r : Binding} (h : r = f (s.binding b)) :
    s.updBinding b f = s.updBinding b (fun _ => r) := State.updBinding_congr h.symm

theorem State.updFrame_updBinding (f : Binding → Binding) (i : Nat) (g : FrameRecord → FrameRecord) :
    (s.updBinding b f).updFrame i g = (s.updFrame i g).updBinding b f := rfl

/-- A count of an active binding is made (R23). -/
theorem State.count_of_active (active : (s.binding b).state.active = true) (c : BindingCounter) (k : Nat) :
    s.count b c k = s.updBinding b (fun r => r.counting (fun x => x.raise k c)) := if_pos active

theorem State.count_eq_counted (s : State) (b : BindingNo) (c : BindingCounter) :
    s.count b c 1 = s.counted b (fun x => x.raise 1 c) := rfl

theorem BindingState.active_of_recording_or_finishing {x : BindingState} (h : x = .recording ∨ x = .finishing) :
    x.active = true := by
  rcases h with rfl | rfl <;> rfl

/-! ### The colour of a frame (R85, R86) -/

/-- Settles O16: the four colourings by the meter and the two buckets. -/
theorem frameIsColoured : Obligations.FrameIsColoured := by
  rintro b f s r rfl active
  unfold State.colourFrame
  refine ⟨fun off => ?green, fun on fits => ?debit, fun on above fits => ?yellow, fun on above above' => ?red⟩
  all_goals dsimp only
  case green =>
    rw [colourOf, if_pos off]
    dsimp only
    rw [State.updAcct, State.updFrame_updBinding]
    exact State.updBinding_of_fixed (s := s.withFrame f.index _) rfl
  case debit =>
    rw [colourOf, if_neg on, if_pos fits]
    dsimp only
    rw [State.updAcct, State.updFrame_updBinding]
    exact State.updBinding_congr rfl
  case yellow =>
    rw [colourOf, if_neg on, if_neg (by omega), if_pos fits]
    dsimp only
    rw [State.count_of_active (by simpa using active), State.updAcct, State.updFrame_updBinding, State.updBinding_updBinding]
    exact State.updBinding_congr rfl
  case red =>
    rw [colourOf, if_neg on, if_neg (by omega), if_neg (by omega)]
    dsimp only
    rw [State.count_of_active (by simpa using active), State.updAcct, State.updFrame_updBinding, State.updBinding_updBinding]
    exact State.updBinding_congr rfl

/-! ### The grade (R90, R92, R93) -/

/-- The quality code that the grade reads is the last one, or before the first completion that of the bound entry. -/
theorem State.qualityOf_toNat {q : Nat} (last : ∀ code, (s.binding b).acct.lastQuality = some code → q = code.toNat)
    (entry : (s.binding b).acct.lastQuality = none → ∀ e ∈ s.sources, e.bound = some b → q = e.quality.toNat)
    (bound : (s.binding b).acct.lastQuality = none → ∃ e ∈ s.sources, e.bound = some b) : (s.qualityOf b).toNat = q := by
  unfold State.qualityOf
  split
  · next code h => exact (last code h).symm
  · next h =>
    split
    · next e found =>
      exact (entry h e (List.mem_of_find?_eq_some found) (by simpa using List.find?_some found)).symm
    · next found =>
      obtain ⟨e, mem, here⟩ := bound h
      exact absurd here (by simpa using List.find?_eq_none.mp found e mem)

theorem State.gradeOf_of_active (active : (s.binding b).state.active = true) :
    s.gradeOf b = (s.binding b).gradeFor s.opts s.store.link (s.qualityOf b).toNat := by
  simp [State.gradeOf, Binding.gradeFor, active]

theorem State.offerTake_of_active (active : (s.binding b).state.active = true) {clip : Clip}
    (h : (s.binding b).clip = some clip) :
    s.offerTake b = s.offer (.take clip (s.binding b).acct.grade (s.binding b).coord.role (s.binding b).coord.primary) := by
  simp [State.offerTake, active, h]

theorem State.recomputeGrade_of_fixed (h : s.gradeOf b = (s.binding b).acct.grade) : s.recomputeGrade b = s := if_pos h

theorem State.recomputeGrade_of_changed (h : s.gradeOf b ≠ (s.binding b).acct.grade) :
    s.recomputeGrade b = ((s.updAcct b (fun a => { a with grade := s.gradeOf b })).offerTake b).evaluate b := if_neg h

/-- Settles O18: the grade is the one of the table, and a changed one is stored, told and evaluated. -/
theorem gradeRecomputed : Obligations.GradeRecomputed := by
  rintro b s r q g rfl active last entry bound rfl
  rw [← State.qualityOf_toNat last entry bound, ← State.gradeOf_of_active active]
  refine ⟨State.recomputeGrade_of_fixed ∘ Eq.symm ∘ Eq.symm, fun changed clip hclip => ?_⟩
  rw [State.recomputeGrade_of_changed changed, State.offerTake_of_active (by simpa using active) (by simpa using hclip)]
  simp [State.updAcct]

end Sys2Proof.Machine
end

section
/-! What the coordination of a recording leaves of a binding record (chapter 6): its state, window, accounting and terms stay,
while its coordination state, its grade, the frames that wait for a browse decision and the counters of writes and yields may
move. -/

namespace Sys2Proof.Machine

/-- What coordination leaves alone: a record without its coordination state, grade, undecided frames and the counters of
writes, yields, failed jobs and holes. -/
def Binding.recording (r : Binding) : Binding :=
  { r with
    acct := { r.acct with grade := 0 }
    coord := {}
    counters := { r.counters with liveWrites := 0, fills := 0, yields := 0, failedJobs := 0, browseHoles := 0 }
    undecided := [] }

/-- The records of a state but for what coordination moves. -/
def State.recordings (s : State) (b : BindingNo) : Binding := (s.binding b).recording

variable (s : State) (b : BindingNo)

section Reading

variable {s} {u : State} (h : u.recordings = s.recordings) (b : BindingNo)
include h

theorem State.state_of_recordings : (u.binding b).state = (s.binding b).state :=
  (congrArg Binding.state (congrFun h b) :)

theorem State.terms_of_recordings : (u.binding b).terms = (s.binding b).terms :=
  (congrArg Binding.terms (congrFun h b) :)

theorem State.effEnd_of_recordings : (u.binding b).effEnd = (s.binding b).effEnd :=
  (congrArg Binding.effEnd (congrFun h b) :)

theorem State.asm_of_recordings : (u.binding b).asm = (s.binding b).asm :=
  (congrArg Binding.asm (congrFun h b) :)

theorem State.acct_of_recordings :
    (u.binding b).acct = { (s.binding b).acct with grade := (u.binding b).acct.grade } := by
  have same := congrArg (fun r => ({ r.acct with grade := (u.binding b).acct.grade } : Accounting)) (congrFun h b)
  exact same

end Reading

/-! ### The updates -/

theorem State.recordings_updBinding {f : Binding → Binding} (h : (f (s.binding b)).recording = (s.binding b).recording) :
    (s.updBinding b f).recordings = s.recordings := by
  funext x
  unfold State.recordings
  rw [State.binding_updBinding]
  split
  · next here => rw [here, h]
  · rfl

@[simp] theorem State.recordings_updCoord (f : Coordination → Coordination) : (s.updCoord b f).recordings = s.recordings :=
  s.recordings_updBinding b rfl

@[simp] theorem State.recordings_setGrade (f : Accounting → Nat) :
    (s.updAcct b (fun a => { a with grade := f a })).recordings = s.recordings := s.recordings_updBinding b rfl

/-- The counts that coordination makes. -/
def BindingCounter.ofCoordination (c : BindingCounter) : Prop :=
  c = .liveWrites ∨ c = .fills ∨ c = .yields ∨ c = .failedJobs ∨ c = .browseHoles

theorem State.recordings_count {c : BindingCounter} (h : c.ofCoordination) (k : Nat) :
    (s.count b c k).recordings = s.recordings := by
  unfold State.count
  split
  · refine s.recordings_updBinding b ?_
    rcases h with rfl | rfl | rfl | rfl | rfl <;> rfl
  · rfl

theorem State.recordings_of_bindings {s u : State} (h : u.bindings = s.bindings) : u.recordings = s.recordings := by
  funext b
  unfold State.recordings State.binding
  rw [h]

@[simp] theorem State.recordings_updFrame (i : Nat) (g : FrameRecord → FrameRecord) :
    (s.updFrame i g).recordings = s.recordings := rfl

@[simp] theorem State.recordings_updStore (f : Store → Store) : (s.updStore f).recordings = s.recordings := rfl

@[simp] theorem State.recordings_updCounters (f : NodeCounters → NodeCounters) :
    (s.updCounters f).recordings = s.recordings := rfl

@[simp] theorem State.freeFrame_bindings (i : Nat) : (s.freeFrame i).bindings = s.bindings := by
  obtain ⟨fr, n, h⟩ := s.freeFrame_spec i
  rw [h]

@[simp] theorem State.releaseFrame_bindings (i : Nat) : (s.releaseFrame i).bindings = s.bindings := by
  obtain ⟨fr, n, h⟩ := s.releaseFrame_spec i
  rw [h]

@[simp] theorem State.giveBack_bindings (i : Nat) : (s.giveBack i).bindings = s.bindings := by
  obtain ⟨fr, n, h⟩ := s.giveBack_spec i
  rw [h]

@[simp] theorem State.offer_bindings (n : Notice) : (s.offer n).bindings = s.bindings := by
  obtain ⟨l, c, h⟩ := s.offer_spec n
  rw [h]

@[simp] theorem State.offerTake_bindings : (s.offerTake b).bindings = s.bindings := by
  unfold State.offerTake
  dsimp only
  split
  · split
    · rfl
    · exact s.offer_bindings _
  · rfl

@[simp] theorem State.recordings_releaseFrame (i : Nat) : (s.releaseFrame i).recordings = s.recordings :=
  State.recordings_of_bindings (s.releaseFrame_bindings i)

@[simp] theorem State.recordings_giveBack (i : Nat) : (s.giveBack i).recordings = s.recordings :=
  State.recordings_of_bindings (s.giveBack_bindings i)

@[simp] theorem State.recordings_offerTake : (s.offerTake b).recordings = s.recordings :=
  State.recordings_of_bindings (s.offerTake_bindings b)

theorem State.recordings_foldl {α : Type} {f : State → α → State} (h : ∀ s x, (f s x).recordings = s.recordings) (l : List α) :
    (l.foldl f s).recordings = s.recordings := by
  induction l generalizing s with
  | nil => rfl
  | cons x xs ih => exact (ih _).trans (h s x)

/-! ### Extent maps, reports and yields -/

@[simp] theorem State.recordings_report (r : Run) : (s.report b r).recordings = s.recordings :=
  (State.recordings_updCounters _ _).trans (s.recordings_updCoord b _)

@[simp] theorem State.recordings_insertExtent (k : ExtentKind) (lo hi : Nat) :
    (s.insertExtent b k lo hi).recordings = s.recordings := s.recordings_updCoord b _

@[simp] theorem State.recordings_ownGap (lo hi : Nat) : (s.ownGap b lo hi).recordings = s.recordings := by
  unfold State.ownGap
  dsimp only
  split
  · split <;> simp
  · rfl

@[simp] theorem State.recordings_yieldFrame (i : Nat) : (s.yieldFrame b i).recordings = s.recordings :=
  (State.recordings_count _ b (by simp [BindingCounter.ofCoordination]) 1).trans (s.recordings_releaseFrame i)

@[simp] theorem State.recordings_yieldCovered (ranges : List (Nat × Nat)) :
    (s.yieldCovered b ranges).recordings = s.recordings :=
  (State.recordings_foldl _ (fun s (h : Held) => s.recordings_yieldFrame b h.frame) _).trans (s.recordings_updCoord b _)

@[simp] theorem State.recordings_releaseAbove (e : Nat) : (s.releaseAbove b e).recordings = s.recordings :=
  (State.recordings_foldl _ (fun s (h : Held) => s.recordings_releaseFrame h.frame) _).trans (s.recordings_updCoord b _)

@[simp] theorem State.recordings_handGaps (ranges : List (Nat × Nat)) : (s.handGaps b ranges).recordings = s.recordings :=
  State.recordings_foldl s (fun s (_ : Nat × Nat) => s.recordings_ownGap b _ _) _

/-! ### Jobs and writes -/

@[simp] theorem State.recordings_tellFailure (j : Job) : (s.tellFailure j).recordings = s.recordings := by
  unfold State.tellFailure
  split
  · rw [State.recordings_giveBack, State.recordings_count _ _ (by simp [BindingCounter.ofCoordination]),
      State.recordings_ownGap]
  · rw [State.recordings_giveBack, State.recordings_count _ _ (by simp [BindingCounter.ofCoordination])]

@[simp] theorem State.recordings_handOver (j : Job) : (s.handOver j).recordings = s.recordings := by
  unfold State.handOver
  split <;> simp

theorem State.recordings_writeFrame (i : Nat) (cls : JobClass) {c : BindingCounter} (hc : c.ofCoordination) :
    (s.writeFrame b i cls c).recordings = s.recordings := by
  unfold State.writeFrame
  split
  · rfl
  · dsimp only
    split
    · refine (State.recordings_updBinding _ b rfl).trans ?_
      simp [State.recordings_count _ b hc]
    · simp [State.recordings_count _ b hc]

@[simp] theorem State.recordings_writeLive (i : Nat) : (s.writeLive b i).recordings = s.recordings :=
  s.recordings_writeFrame b i _ (by simp [BindingCounter.ofCoordination])

@[simp] theorem State.recordings_fillHeld (h : Held) : (s.fillHeld b h).recordings = s.recordings :=
  (State.recordings_writeFrame _ b _ _ (by simp [BindingCounter.ofCoordination])).trans (s.recordings_updCoord b _)

@[simp] theorem State.recordings_fillAll (hs : List Held) : (s.fillAll b hs).recordings = s.recordings :=
  s.recordings_foldl (fun s h => s.recordings_fillHeld b h) hs

@[simp] theorem State.recordings_pressureTest : (s.pressureTest b).recordings = s.recordings := by
  unfold State.pressureTest
  split
  · split <;> simp
  · rfl

/-! ### Roles, grades and fates -/

@[simp] theorem State.recordings_promote : (s.promote b).recordings = s.recordings :=
  (State.recordings_foldl _ (fun s (h : Held) => s.recordings_writeLive b h.frame) _).trans (s.recordings_updCoord b _)

@[simp] theorem State.recordings_changeView (best : Station) : (s.changeView b best).recordings = s.recordings := by
  unfold State.changeView
  dsimp only
  split <;> simp

@[simp] theorem State.recordings_evaluate : (s.evaluate b).recordings = s.recordings := by
  unfold State.evaluate
  split <;> simp

@[simp] theorem State.recordings_recomputeGrade : (s.recomputeGrade b).recordings = s.recordings := by
  unfold State.recomputeGrade
  dsimp only
  split <;> simp

@[simp] theorem State.recordings_redFrame (f : FrameRecord) : (s.redFrame b f).recordings = s.recordings := by
  simp [State.redFrame]

@[simp] theorem State.recordings_holdFrame (f : FrameRecord) : (s.holdFrame b f).recordings = s.recordings := by
  unfold State.holdFrame
  dsimp only
  split <;> simp

@[simp] theorem State.recordings_decideFate (i : Nat) : (s.decideFate b i).recordings = s.recordings := by
  unfold State.decideFate
  split
  · rfl
  · dsimp only
    split
    · exact s.recordings_yieldFrame b i
    · split
      · exact s.recordings_redFrame b _
      · split
        · exact s.recordings_writeLive b i
        · exact s.recordings_holdFrame b _

end Sys2Proof.Machine
end

section
/-! Jobs handed over and users given back (R64, R127, R143); house time (R184 to R187); the transmitter (R167 to R170). -/

namespace Sys2Proof.Machine

variable {s : State} {b : BindingNo}

/-! ### Hand-over (R127, R143) -/

theorem State.handOver_of_room {j : Job} (up : s.store.link = .up) (room : (s.store.queue j.cls).length < 256) :
    s.handOver j = { s with store := s.store.setQueue j.cls (s.store.queue j.cls ++ [j]) } := if_pos ⟨up, room⟩

theorem State.handOver_of_refused {j : Job} (h : s.store.link ≠ .up ∨ 256 ≤ (s.store.queue j.cls).length) :
    s.handOver j = s.tellFailure j := by
  refine if_neg ?_
  rintro ⟨up, room⟩
  rcases h with down | full
  · exact down up
  · exact absurd room (Nat.not_lt.mpr full)

/-- The failure of a job is told as R143 and R163 say. -/
theorem State.tellFailure_eq_jobFailed (s : State) (j : Job) : s.tellFailure j = s.jobFailed j := by
  unfold State.tellFailure State.jobFailed
  cases j.kind <;> rfl

theorem State.counted_of_active (active : (s.binding b).state.active = true) (f : BindingCounters → BindingCounters) :
    s.counted b f = s.updBinding b (fun q => q.counting f) := if_pos active

theorem State.jobFailed_of_essence {j : Job} (active : (s.binding j.binding).state.active = true) (kind : j.kind = .essence) :
    s.jobFailed j = ((s.ownGap j.binding j.start j.stop).updBinding j.binding (fun q =>
      q.counting (fun c => { c with failedJobs := oneMore c.failedJobs }))).giveBack j.frame := by
  simp only [State.jobFailed, kind]
  rw [State.counted_of_active]
  rw [State.state_of_recordings (s.recordings_ownGap _ _ _)]
  exact active

theorem State.jobFailed_of_browse {j : Job} (active : (s.binding j.binding).state.active = true) (kind : j.kind = .browse) :
    s.jobFailed j = (s.updBinding j.binding (fun q =>
      q.counting (fun c => { c with browseHoles := oneMore c.browseHoles }))).giveBack j.frame := by
  simp only [State.jobFailed, kind]
  rw [State.counted_of_active active]

/-! ### Users of a frame record (R64, R67) -/

theorem State.freeFrame_of_some {i : Nat} {f : FrameRecord} (h : s.frame? i = some f) : s.freeFrame i = s.freed f := by
  have index : f.index = i := by simpa using List.find?_some h
  simp only [State.freeFrame, h, State.freed, index]

theorem State.giveBack_of_writing {i : Nat} {f : FrameRecord} (h : s.frame? i = some f)
    (out : f.state = .writing ∨ f.state = .released) :
    s.giveBack i = if f.users ≤ 1 then s.freed f else s.withFrame i (fun x => { x with users := x.users - 1 }) := by
  simp only [State.giveBack, h, out, and_true, State.freeFrame_of_some h]
  rfl

theorem State.releaseFrame_of_some {i : Nat} {f : FrameRecord} (h : s.frame? i = some f) :
    s.releaseFrame i = if f.users = 0 then s.freed f else s.withFrame i (fun x => { x with state := .released }) := by
  simp only [State.releaseFrame, h, State.freeFrame_of_some h]
  rfl

/-- Settles O45: a job is taken or its failure is told; a user given back or a release frees a record left without users. -/
theorem jobsAreHandedOver : Obligations.JobsAreHandedOver := by
  refine ⟨fun j s => ⟨State.handOver_of_room, fun refused active => ?_⟩, fun i f s => ⟨fun gone => ?_, fun here => ?_⟩⟩
  · rw [State.handOver_of_refused refused, State.tellFailure_eq_jobFailed]
    exact ⟨State.jobFailed_of_essence active, State.jobFailed_of_browse active⟩
  · simp only [State.giveBack, gone]
  · rw [State.releaseFrame_of_some here]
    exact ⟨State.giveBack_of_writing here, fun h => if_pos h, fun h => if_neg h⟩

/-! ### House time (R185 to R187) -/

theorem House.pulse_eq (h : House) (now : Time) :
    h.pulse now =
      if h.state = .referenced ∧ (now - h.lastFrame).toNat < h.period / 2 then h
      else if h.state = .referenced then
        { state := .referenced, counter := h.counter + 1, lastFrame := now, byPulse := true
          period :=
            if h.byPulse then
              ((h.period : Int) +
                Int.tdiv (max 10000 (min 100000 ((now - h.lastFrame).toNat : Int)) - h.period) 8).toNat
            else h.period }
      else
        { state := .referenced
          counter := if (now - h.lastFrame).toNat < h.period / 2 then h.counter else h.counter + 1, lastFrame := now,
          byPulse := true, period := h.period } := by
  obtain ⟨state, period, counter, lastFrame, byPulse⟩ := h
  cases state
  case referenced =>
    simp only [House.pulse, true_and, if_true]
    split
    · rfl
    · rw [approach_eq_toNat, clampTo]
      push_cast
      rfl
  case freeRun =>
    simp only [House.pulse, reduceCtorEq, false_and, if_false]
    split <;> rfl

/-- Settles O28: house frames are made in the states and at the times of R185 to R187. -/
theorem houseTimeRuns : Obligations.HouseTimeRuns := by
  rintro t s h g rfl rfl loaded node
  have runs : (s.atTime t).houseRuns = true := by simp [State.houseRuns, loaded, node]
  have pulse : exec (.hrefPulse t) s =
      .next (if (s.atTime t).houseRuns then (s.atTime t).updHouse (fun h => h.pulse t) else s.atTime t) := rfl
  have entry : exec (.freeRunEntry t) s = .next (
      if (s.atTime t).houseRuns ∧ s.house.state = .referenced ∧ 2 * s.house.period ≤ (t - s.house.lastFrame).toNat then
        ((s.atTime t).updHouse (fun h => { h.frame t false with state := .freeRun })).updCounters
          (fun c => { c with referenceLoss := bump c.referenceLoss 1 })
      else s.atTime t) := rfl
  have frame : exec (.internalHouseFrame t) s = .next (
      if (s.atTime t).houseRuns ∧ s.house.state = .freeRun ∧ s.house.period ≤ (t - s.house.lastFrame).toNat then
        (s.atTime t).updHouse (fun h => h.frame t false)
      else s.atTime t) := rfl
  rw [pulse, entry, frame, if_pos runs]
  refine ⟨?_, fun state due => ?_, fun state due => ?_, fun early => ?_, fun early => ?_⟩
  · rw [State.updHouse, State.atTime_house, House.pulse_eq]
    rfl
  · rw [if_pos ⟨runs, state, due⟩]
    rfl
  · rw [if_pos ⟨runs, state, due⟩]
    simp only [State.updHouse, House.frame, State.atTime_house, state]
    rfl
  · rw [if_neg]
    · rfl
    · rintro ⟨-, state, due⟩
      rcases early with free | early
      · rw [free] at state
        cases state
      · omega
  · rw [if_neg]
    · rfl
    · rintro ⟨-, state, due⟩
      rcases early with referenced | early
      · rw [referenced] at state
        cases state
      · omega

/-! ### The transmitter (R167 to R170) -/

theorem Lane.popped_eq_headGone (l : Lane) : l.popped = l.headGone := by
  simp only [Lane.popped, Lane.headGone, List.drop_one]

theorem Lane.drawHoldoff_eq (l : Lane) :
    l.drawHoldoff =
      if l.attempts = 0 then { l with tx := .sending }
      else if (galois l.lfsr).toNat % 2 ^ (min l.attempts 6) = 0 then { l with lfsr := galois l.lfsr, tx := .sending }
      else { l with lfsr := galois l.lfsr, tx := .holdoff ((galois l.lfsr).toNat % 2 ^ (min l.attempts 6)) } := by
  have none_iff : min l.attempts 6 = 0 ↔ l.attempts = 0 := by omega
  simp only [Lane.drawHoldoff, lfsrStep_eq_galois, none_iff]
  split
  · rfl
  · split <;> simp [*]

/-- Settles O42: what each lane event makes of each state of the transmitter. -/
theorem laneAccess : Obligations.LaneAccess := by
  rintro t s v l k r rfl rfl rfl rfl
  have gap : exec (.idleGap t) s =
      .next (if s.lane.tx = .defer then (s.atTime t).updLane Lane.drawHoldoff else s.atTime t) := rfl
  have ends : exec (.holdoffEnd t) s = .next ((s.atTime t).leaveHoldoff .sending) := rfl
  have given_up : exec (.holdoffGivenUp t) s = .next ((s.atTime t).leaveHoldoff .defer) := rfl
  have sent : exec (.noticeSent t) s = .next (s.atTime t).noticeOut := rfl
  have collides : exec (.collision t) s = .next (s.atTime t).collide := rfl
  have left (n : Nat) (h : s.lane.tx = .holdoff n) (x : TransmitterState) :
      (s.atTime t).leaveHoldoff x = { s.atTime t with lane := { s.lane with tx := x } } := by
    simp only [State.leaveHoldoff, State.atTime_lane, h, State.updLane]
  have stays (h : ∀ n, s.lane.tx ≠ .holdoff n) (x : TransmitterState) : (s.atTime t).leaveHoldoff x = s.atTime t := by
    cases htx : s.lane.tx with
    | holdoff n => exact absurd htx (h n)
    | _ => simp only [State.leaveHoldoff, State.atTime_lane, htx]
  rw [gap, ends, given_up, sent, collides]
  refine ⟨fun tx => ?_, fun n tx => ?_, fun tx => ⟨?_, fun last => ?_, fun first full => ?_, fun first few => ?_⟩,
    fun tx => ?_, fun tx => ?_, fun tx => ?_⟩
  · rw [if_pos tx, State.updLane, State.atTime_lane, Lane.drawHoldoff_eq]
    rfl
  · rw [left n tx, left n tx]
    exact ⟨rfl, rfl⟩
  · rw [State.noticeOut, State.atTime_lane, if_pos tx, State.updLane, Lane.popped_eq_headGone]
    rfl
  · simp only [State.collide, State.atTime_lane, tx, if_true, State.updCounters_lane, last, State.updLane,
      Lane.popped_eq_headGone]
    rfl
  · have sixteenth : Config.maxCollisions ≤ s.lane.attempts + 1 := by simp only [Config.maxCollisions]; omega
    simp only [State.collide, State.atTime_lane, tx, if_true, State.updCounters_lane, first, sixteenth, State.updLane,
      Lane.popped_eq_headGone]
    rfl
  · have fewer : ¬ Config.maxCollisions ≤ s.lane.attempts + 1 := by simp only [Config.maxCollisions]; omega
    simp only [State.collide, State.atTime_lane, tx, if_true, State.updCounters_lane, first, fewer, if_false, State.updLane]
    rfl
  · rw [if_neg tx]
    rfl
  · rw [stays tx, stays tx]
    exact ⟨rfl, rfl⟩
  · rw [State.noticeOut, State.collide, State.atTime_lane, if_neg tx, if_neg tx]
    exact ⟨rfl, rfl⟩

end Sys2Proof.Machine
end

section
/-! What an offered notice depends on (R175 to R178), and the notices that are offered at their times (R98, R123, R180). -/

namespace Sys2Proof.Machine

variable {s u : State} {b : BindingNo}

/-! ### What an offer reads and changes -/

/-- A place in the queue depends on the lane and the node counters alone. -/
theorem State.place_congr (lane : u.lane = s.lane) (counters : u.counters = s.counters) (n : Notice) :
    u.place n = { u with lane := (s.place n).lane, counters := (s.place n).counters } := by
  unfold State.place
  rw [lane]
  split
  · simp only [State.updLane, lane, ← counters]
  · split
    · simp only [← lane, ← counters]
    · split
      · simp only [State.updLane, lane, ← counters]
      · simp only [State.updCounters, counters, ← lane]

/-- An offer depends on the lane, the node counters and whether the node is on the lane. -/
theorem State.offer_congr (onLane : u.onLane = s.onLane) (lane : u.lane = s.lane) (counters : u.counters = s.counters)
    (n : Notice) : u.offer n = { u with lane := (s.offer n).lane, counters := (s.offer n).counters } := by
  have unchanged : u = { u with lane := s.lane, counters := s.counters } := by rw [← lane, ← counters]
  unfold State.offer
  rw [onLane, lane]
  split
  · split
    · simp only [State.updLane, lane, ← counters]
    · split
      · split
        · exact State.place_congr lane counters _
        · dsimp only
          split
          · simp only [State.updLane, lane, ← counters]
          · exact State.place_congr (s := s.updLane _) (u := u.updLane _) (by simp only [State.updLane, lane]) counters _
      · exact State.place_congr lane counters _
  · exact unchanged

theorem State.offer_updBinding (f : Binding → Binding) (n : Notice) :
    (s.updBinding b f).offer n = (s.offer n).updBinding b f := by
  obtain ⟨l, c, h⟩ := s.offer_spec n
  rw [State.offer_congr (s := s) (u := s.updBinding b f) rfl rfl rfl, h]
  rfl

theorem State.offer_setNextPresence (x : Option Time) (n : Notice) :
    ({ s with lane := { s.lane with nextPresence := x } } : State).offer n =
      (s.offer n).updLane (fun l => { l with nextPresence := x }) := by
  have places (s : State) (n : Notice) : ({ s with lane := { s.lane with nextPresence := x } } : State).place n =
      (s.place n).updLane (fun l => { l with nextPresence := x }) := by
    unfold State.place
    dsimp only
    split
    · rfl
    · split
      · rfl
      · change (if s.lane.openNotices.any _ then _ else _) = _
        split
        · simp only [State.updLane, Lane.evict, Lane.join]
          split
          · rfl
          · split <;> rfl
        · rfl
  unfold State.offer
  dsimp only
  change (if s.onLane = true then if s.lane.openNotices.any _ then _ else _ else _) = _
  split
  · split
    · rfl
    · split
      · have same : ({ s.lane with nextPresence := x } : Lane).openNotices = s.lane.openNotices := rfl
        rw [same]
        split
        · exact places s _
        · next merged rest _ =>
          split
          · rfl
          · exact places (s.updLane fun l => { l with queue := l.locked ++ merged.reverse }) _
      · exact places s _
  · rfl

/-! ### Notices at their times -/

theorem reached_iff (now deadline : Time) : reached now deadline = true ↔ (now - deadline).toNat < 2 ^ 47 := decide_eq_true_iff

theorem houseReached_iff (count time : HouseCount) : houseReached count time = true ↔ (count - time).toNat < 2 ^ 31 :=
  decide_eq_true_iff

theorem not_reached_iff (now deadline : Time) : ¬ reached now deadline = true ↔ 2 ^ 47 ≤ (now - deadline).toNat := by
  rw [reached_iff, not_lt]

theorem not_houseReached_iff (count time : HouseCount) :
    ¬ houseReached count time = true ↔ 2 ^ 31 ≤ (count - time).toNat := by
  rw [houseReached_iff, not_lt]

theorem State.onLane_iff : s.onLane = true ↔ s.node = .running ∨ s.node = .restarting := decide_eq_true_iff

theorem State.takeDue_of_due {clip : Clip} (active : (s.binding b).state.active = true) (h : (s.binding b).clip = some clip)
    (due : reached s.now (s.binding b).coord.nextTake = true) :
    s.takeDue b = (s.updCoord b (fun c => { c with nextTake := c.nextTake + ms s.opts.presence })).offer
      (.take clip (s.binding b).acct.grade (s.binding b).coord.role (s.binding b).coord.primary) := by
  rw [State.takeDue, if_pos ⟨active, due⟩, State.offerTake_of_active active h]
  obtain ⟨l, c, offered⟩ := s.offer_spec (.take clip (s.binding b).acct.grade (s.binding b).coord.role (s.binding b).coord.primary)
  rw [State.updCoord, State.updCoord, State.offer_updBinding, offered]

/-- The extents due in RECORDING and FINISHING are told, the times moved on. -/
theorem State.extentDue_eq (active : (s.binding b).state.active = true)
    (due : houseReached s.house.counter (s.binding b).coord.nextExtent = true) {w : State}
    (hw : w = s.updCoord b (fun c => { c with nextExtent := c.nextExtent + BitVec.ofNat 32 s.opts.extentPeriod })) :
    s.extentDue b =
      if (s.binding b).state ≠ .armed ∧ ((s.binding b).coord.report ≠ [] ∨
          (s.binding b).coord.lastThrough ≠ some (s.binding b).coord.ownThrough) then
        (w.updCoord b (fun c => { c with report := c.report.drop 6, lastThrough := some c.ownThrough })).offer
          (.extent ((s.binding b).clip.getD 0) (s.binding b).coord.role (s.binding b).coord.ownThrough
            ((s.binding b).coord.report.take 6))
      else w := by
  have moved : w.binding b = { s.binding b with coord := { (s.binding b).coord with
      nextExtent := (s.binding b).coord.nextExtent + BitVec.ofNat 32 s.opts.extentPeriod } } := by
    simp [hw]
  rw [State.extentDue, if_pos ⟨active, due⟩, ← hw]
  dsimp only
  rw [moved]
  rfl

/-- Settles O24: at its time each notice is offered with the values as they stand, and the time moves one period on. -/
theorem timedNotices : Obligations.TimedNotices := by
  refine ⟨?_, ?_⟩
  · rintro t b s r rfl
    have take : exec (.takeTime t b) s = .next ((s.atTime t).takeDue b) := rfl
    have presence : exec (.presenceTime t) s = .next (s.atTime t).presenceDue := rfl
    rw [take, presence]
    refine ⟨fun clip active hclip due => ?_, fun early => ?_, fun time onLane hnext due => ?_, fun time hnext early => ?_,
      fun silent => ?_⟩
    · rw [State.takeDue_of_due (s := s.atTime t) active hclip ((reached_iff _ _).mpr due)]
      rfl
    · rw [State.takeDue, if_neg]
      · rfl
      · rintro ⟨active, due⟩
        rcases early with idle | early
        · rw [State.isActive_iff] at active
          exact absurd (active.symm.trans idle) (by simp)
        · exact (not_reached_iff _ _).mpr early due
    · simp only [State.presenceDue, State.atTime_lane, hnext]
      rw [if_pos ⟨State.onLane_iff.mpr onLane, (reached_iff _ _).mpr due⟩, ← State.offer_setNextPresence]
      rfl
    · simp only [State.presenceDue, State.atTime_lane, hnext]
      rw [if_neg (fun h => (not_reached_iff _ _).mpr early h.2)]
      rfl
    · cases hnext : s.lane.nextPresence with
      | none => simp only [State.presenceDue, State.atTime_lane, hnext]; rfl
      | some time =>
        simp only [State.presenceDue, State.atTime_lane, hnext]
        rw [if_neg]
        · rfl
        · rintro ⟨onLane, -⟩
          rcases State.onLane_iff.mp onLane with h | h <;> simp_all
  · rintro t b s w r rfl active rfl
    have extent : exec (.extentTime t b) s = .next ((s.atTime t).extentDue b) := rfl
    rw [extent]
    refine ⟨fun due => ?_, fun early => ?_⟩
    · rw [State.extentDue_eq (s := s.atTime t) active ((houseReached_iff _ _).mpr due) rfl]
      refine ⟨fun clip state hclip new => ?_, fun none_new => ?_⟩
      · have clip_is : (s.binding b).clip.getD 0 = clip := by rw [hclip]; rfl
        rw [if_pos ⟨state, new⟩, ← clip_is]
        rfl
      · rw [if_neg]
        · rfl
        · rintro ⟨state, new⟩
          rcases none_new with armed | ⟨empty, same⟩
          · exact state armed
          · exact new.elim (fun h => h empty) (fun h => h same)
    · rw [State.extentDue, if_neg (fun h => (not_houseReached_iff _ _).mpr early h.2)]
      rfl

end Sys2Proof.Machine
end

section
/-! The browse decision (R155 to R161) and QUERY (R21, R22, R196). -/

namespace Sys2Proof.Machine

variable {s : State} {b : BindingNo}

theorem FrameRecord.index_of_frame? {i : Nat} {f : FrameRecord} (h : s.frame? i = some f) : f.index = i := by
  simpa using List.find?_some h

theorem ceilDiv_pieces (n : Nat) : ceilDiv n Config.piecesPerTransaction = (n + 63) / 64 := rfl

theorem ringIndex_eq {slot : Nat} {j : Fin 32} (h : j.val = slot % 32) : ringIndex slot = j := Fin.ext h.symm

/-! ### The browse decision -/

theorem State.setRing_eq {slot : Nat} {j : Fin 32} (hj : j.val = slot % 32) :
    s.setRing b slot = s.updBinding b (fun q => { q with ring := q.ring.set j (some slot) }) := by
  obtain rfl := ringIndex_eq hj
  rfl

theorem State.stepThinning_eq (f : FrameRecord) :
    s.stepThinning f =
      if f.colour = some .yellow then { s with browse := { s.browse with lfsr := galois s.browse.lfsr } } else s := rfl

theorem State.stepThinning_binding (f : FrameRecord) (x : BindingNo) : (s.stepThinning f).binding x = s.binding x := by
  unfold State.stepThinning
  split <;> rfl

section Decision

variable {f : FrameRecord} {slot : Nat} {j : Fin 32} (hslot : slot = f.spanStart / (s.binding b).terms.divisor)
  (hj : j.val = slot % 32)
include hslot hj

theorem State.decideBrowse_chosen (chosen : (s.binding b).ring[j] = some slot) : s.decideBrowse b f = s.giveBack f.index := by
  subst hslot
  simp only [State.decideBrowse, State.browseResult, ringIndex_eq hj, chosen, if_true]

variable (fresh : (s.binding b).ring[j] ≠ some slot)
include fresh

theorem State.decideBrowse_oversize (active : (s.binding b).state.active = true)
    (big : (s.binding b).terms.browseCells - 1 < f.base) :
    s.decideBrowse b f = (s.updBinding b (fun q =>
      { q with
        ring := q.ring.set j (some slot)
        counters := { q.counters with browseHoles := oneMore q.counters.browseHoles } })).giveBack f.index := by
  subst hslot
  simp only [State.decideBrowse, State.browseResult, ringIndex_eq hj, fresh, big, if_false, if_true]
  rw [State.setRing_eq hj, State.count_of_active (by simpa using active), State.updBinding_updBinding]
  rfl

variable (fits : f.base ≤ (s.binding b).terms.browseCells - 1)
include fits

theorem State.decideBrowse_thinned (active : (s.binding b).state.active = true) (yellow : f.colour = some .yellow)
    (thin : (galois s.browse.lfsr).toNat % 1024 < s.opts.thinning.getD s.browse.band 0) :
    s.decideBrowse b f = ((s.stepThinning f).updBinding b (fun q =>
      q.counting (fun c => { c with thinned := oneMore c.thinned }))).giveBack f.index := by
  subst hslot
  have result : s.browseResult b f = .thinned := by
    simp only [State.browseResult, ringIndex_eq hj, fresh, Nat.not_lt.mpr fits, if_false]
    exact if_pos ⟨yellow, thin⟩
  simp only [State.decideBrowse, result]
  rw [State.count_of_active (by rw [State.stepThinning_binding]; exact active)]
  rfl

theorem State.decideBrowse_built
    (keep : ¬ (f.colour = some .yellow ∧ (galois s.browse.lfsr).toNat % 1024 < s.opts.thinning.getD s.browse.band 0)) :
    s.decideBrowse b f = ((s.stepThinning f).updBinding b (fun q => { q with ring := q.ring.set j (some slot) })).handOver
      (browseJob b f slot) := by
  subst hslot
  have result : s.browseResult b f = .built := by
    simp only [State.browseResult, ringIndex_eq hj, fresh, Nat.not_lt.mpr fits, if_false]
    exact if_neg keep
  simp only [State.decideBrowse, result]
  rw [State.setRing_eq hj]

end Decision

/-- Settles O44: the oldest waiting frame leaves the list, and is decided by the first test that holds. -/
theorem browseDecision : Obligations.BrowseDecision := by
  rintro t b s r rfl
  have decides : exec (.browseDecision t b) s = .next ((s.atTime t).browseNext b) := rfl
  rw [decides]
  constructor
  · rintro (stopped | empty)
    · exact congrArg _ (if_neg stopped)
    · have none_waits : ((s.atTime t).binding b).undecided = [] := empty
      simp only [State.browseNext, none_waits, ite_self]
      rfl
  · rintro index rest f slot j w x y draw running active waiting here hslot hj rfl rfl rfl rfl
    set w := (s.atTime t).updBinding b (fun q => { q with undecided := rest }) with hw
    have record : w.binding b = { s.binding b with undecided := rest } := by simp [hw]
    have terms : (w.binding b).terms = (s.binding b).terms := by rw [record]
    have ring : (w.binding b).ring = (s.binding b).ring := by rw [record]
    have active' : (w.binding b).state.active = true := by rw [record]; exact active
    have waits : ((s.atTime t).binding b).undecided = index :: rest := waiting
    have found : w.frame? index = some f := here
    have decided : (s.atTime t).browseNext b = w.decideBrowse b f := by
      rw [State.browseNext, State.atTime_node, if_pos running, waits]
      dsimp only
      rw [← hw, found]
    have hindex : index = f.index := (FrameRecord.index_of_frame? here).symm
    rw [decided, hindex]
    rw [← terms] at hslot
    rw [← ring, ← terms]
    refine ⟨fun chosen => congrArg _ (State.decideBrowse_chosen hslot hj chosen), fun fresh => ⟨fun big => ?_, fun fits => ⟨?_, ?_⟩⟩⟩
    · exact congrArg _ (State.decideBrowse_oversize hslot hj fresh active' big)
    · rintro ⟨yellow, thin⟩
      rw [State.decideBrowse_thinned hslot hj fresh fits active' yellow thin, State.stepThinning_eq, if_pos yellow]
    · intro keep
      rw [State.decideBrowse_built hslot hj fresh fits keep, State.stepThinning_eq]
      rfl

/-! ### QUERY -/

/-- A notice of another station goes on to the block that takes it (R173, R174). -/
theorem State.receive_of_other {x : Station} (onLane : s.node = .running ∨ s.node = .restarting) (other : x ≠ s.opts.station)
    (kind : Byte) (body : List Byte) (deliver : State → State) : s.receive x kind body deliver = deliver s := by
  have no_echo : ¬ s.ownEcho x kind body = true := by
    unfold State.ownEcho
    split
    · simp [other]
    · simp
  rw [State.receive, if_pos (State.onLane_iff.mpr onLane), if_neg no_echo, if_neg other]

/-- Settles O38: a QUERY that names the node is answered with the record's or the node's values as they stand. -/
theorem queryIsAnswered : Obligations.QueryIsAnswered := by
  rintro t station target clip s v other rfl named_clip
  have delivered (onLane : s.node = .running ∨ s.node = .restarting) :
      exec (.queryBinding t station target clip) s = .next ((s.atTime t).answerQuery target clip) ∧
      exec (.queryNode t station target) s = .next ((s.atTime t).answerQuery target 0) :=
    ⟨congrArg _ (State.receive_of_other (s := s.atTime t) onLane other _ _ _),
      congrArg _ (State.receive_of_other (s := s.atTime t) onLane other _ _ _)⟩
  refine ⟨fun silent => ?_, fun running named => ?_⟩
  · have unnamed : ¬ ((s.atTime t).node = .running ∧ (s.atTime t).queryNames target = true) := by
      simp only [State.atTime_node, State.queryNames, decide_eq_true_eq]
      rintro ⟨running, named⟩
      rcases silent with restarting | ⟨-, not_own, not_all⟩
      · simp [restarting] at running
      · exact named.elim not_own not_all
    obtain ⟨binding, node⟩ := delivered (silent.elim .inr fun h => .inl h.1)
    rw [binding, node, State.answerQuery, State.answerQuery, if_neg unnamed, if_neg unnamed]
    exact ⟨rfl, rfl⟩
  · have answers : (s.atTime t).node = .running ∧ (s.atTime t).queryNames target = true :=
      ⟨running, decide_eq_true_iff.mpr named⟩
    obtain ⟨binding, node⟩ := delivered (.inl running)
    have holder : (s.atTime t).holderOf clip = s.holderOf clip := rfl
    rw [binding, node, State.answerQuery, State.answerQuery, if_pos answers, if_pos answers, if_neg named_clip, if_pos rfl,
      holder]
    refine ⟨fun b r held hr => ?_, fun unheld => ⟨fun all => ?_, fun own => ?_⟩, ?_⟩
    · subst hr
      rw [held]
      rfl
    · rw [unheld]
      exact congrArg _ (if_pos all)
    · rw [unheld]
      exact congrArg _ (if_neg own)
    · have stats : (s.atTime t).nodeStats = { (s.atTime t).nodeStats with node := .running } := by
        simp only [State.nodeStats, State.atTime_node, running]
      dsimp only
      rw [stats]
      have ports : ((s.atTime t).offer (.nodeStats { (s.atTime t).nodeStats with node := .running })).portStats =
          s.portStats := by
        obtain ⟨l, c, h⟩ := (s.atTime t).offer_spec (.nodeStats { (s.atTime t).nodeStats with node := .running })
        rw [h]
        rfl
      rw [ports]
      rfl

end Sys2Proof.Machine
end

section
/-! The end of a recording (R17 to R20): drains, quietness and the DONE. -/

namespace Sys2Proof.Machine

variable {s : State} {b : BindingNo}

/-! ### What the tests say -/

theorem State.inFlightOf_iff : s.inFlightOf b = true ↔ s.flies b := by
  simp only [State.inFlightOf, State.flies, List.any_eq_true]
  constructor
  · rintro ⟨g, -, h⟩
    split at h
    · next tx busy => exact ⟨g, tx, busy, of_decide_eq_true h⟩
    · cases h
  · rintro ⟨g, tx, busy, owner⟩
    refine ⟨g, mem_allTags g, ?_⟩
    rw [busy]
    exact decide_eq_true owner

theorem State.inFlightOf_eq_false_iff : s.inFlightOf b = false ↔ ¬ s.flies b := by
  rw [← State.inFlightOf_iff, Bool.not_eq_true]

theorem State.becomeIdle_eq_idled (s : State) (b : BindingNo) : s.becomeIdle b = s.idled b := by
  have unbinds : (fun e : SourceEntry => e.unbind b) = fun e => { e with bound := if e.bound = some b then none else e.bound } := by
    funext e
    unfold SourceEntry.unbind
    split <;> rfl
  unfold State.becomeIdle State.idled
  rw [unbinds]
  rfl

theorem Slot.isOpen_iff (x : Slot) : x.isOpen = true ↔ x.open := by
  cases x <;> simp [Slot.isOpen, Slot.open]

theorem Store.mem_jobs_iff {st : Store} {j : Job} : j ∈ st.jobs ↔ ∃ c : JobClass, j ∈ st.queue c := by
  simp only [Store.jobs, List.mem_append]
  constructor
  · rintro ((h | h) | h)
    · exact ⟨.live, h⟩
    · exact ⟨.fill, h⟩
    · exact ⟨.browse, h⟩
  · rintro ⟨_ | _ | _, h⟩
    · exact .inl (.inl h)
    · exact .inl (.inr h)
    · exact .inr h

theorem State.quiet_iff : s.quiet b = true ↔ s.isQuiet b := by
  have jobs : (∀ j ∈ s.store.jobs, j.binding ≠ b) ↔ ∀ c : JobClass, ∀ j ∈ s.store.queue c, j.binding ≠ b :=
    ⟨fun h c j hj => h j (Store.mem_jobs_iff.mpr ⟨c, hj⟩), fun h j hj => (Store.mem_jobs_iff.mp hj).elim fun c hc => h c j hc⟩
  unfold State.quiet State.isQuiet
  rw [← jobs, ← State.inFlightOf_eq_false_iff]
  simp [← Slot.isOpen_iff, and_assoc]

theorem State.canAcceptDone_iff : s.canAcceptDone = true ↔ s.acceptsDone := by
  rw [State.canAcceptDone, Bool.or_eq_true, decide_eq_true_iff, List.any_eq_true]
  exact .rfl

theorem State.firstWaiting_iff :
    s.firstWaiting = some b ↔ (s.binding b).donePending = .yes ∧ ∀ b' < b, (s.binding b').donePending ≠ .yes := by
  simp only [State.firstWaiting, find?_allBindings_eq_some_iff, decide_eq_true_eq, decide_eq_false_iff_not]

/-! ### A DONE is offered (R20, R178) -/

theorem Notice.done_replaces (clip : Clip) (reason : Option FinishReason) (e : Nat) (q : Notice) :
    (Notice.done clip reason e).replaces q = false := by cases q <;> rfl

theorem State.offer_done (running : s.node = .running) (clip : Clip) (reason : Option FinishReason) (e : Nat) :
    s.offer (.done clip reason e) = s.place (.done clip reason e) := by
  have replaces_none : ¬ s.lane.openNotices.any (Notice.done clip reason e).replaces = true := by
    simp [Notice.done_replaces]
  rw [State.offer, if_pos (State.onLane_iff.mpr (.inl running)), if_neg replaces_none]
  nofun

/-- A notice that a queue with a place, or with a notice to evict, takes joins its tail; nothing is counted. -/
theorem State.place_of_acceptsDone (accepts : s.acceptsDone) {n : Notice} (h : n.evictable = false) :
    (s.place n).lane.queue.getLast? = some n ∧ (s.place n).counters = s.counters := by
  rw [← State.canAcceptDone_iff, State.canAcceptDone, Bool.or_eq_true, decide_eq_true_eq] at accepts
  unfold State.place
  split
  · exact ⟨List.getLast?_concat, rfl⟩
  · next full =>
    rw [if_neg (by simp [h]), if_pos (accepts.resolve_left full)]
    exact ⟨List.getLast?_concat, rfl⟩

/-- Settles O37: each event's test is the one of its rule, and its outcome the DONE pending, the DONE queued, or IDLE. -/
theorem recordingEnds : Obligations.RecordingEnds := by
  constructor
  · rintro t b s r rfl
    have drain : exec (.drainEnd t b) s = .next ((s.atTime t).endDrain b) := rfl
    have quiet : exec (.bindingQuiet t b) s = .next ((s.atTime t).becomeQuiet b) := rfl
    have flies : (s.atTime t).inFlightOf b = false ↔ ¬ s.flies b := s.inFlightOf_eq_false_iff
    have quiet_iff : (s.atTime t).quiet b = true ↔ s.isQuiet b := s.quiet_iff
    rw [drain, quiet, State.endDrain, State.becomeQuiet]
    refine ⟨fun draining landed => ?_, fun stays => ?_, fun ⟨finishing, none_waits, ends⟩ => ?_,
      fun stays => ?_⟩
    · rw [if_pos ⟨draining, flies.mpr landed⟩]
      rcases (s.atTime t).drained_cases b with ⟨h, ends⟩ | ⟨h, ends⟩ | ⟨h, ends⟩ <;> rw [State.atTime_binding] at h <;>
        rw [ends, h]
      · exact ⟨fun _ => rfl, nofun⟩
      · exact ⟨nofun, nofun⟩
      · exact ⟨nofun, fun _ => congrArg _ (State.becomeIdle_eq_idled _ b)⟩
    · split
      · next ends =>
        have pending : (s.binding b).donePending = .yes :=
          (stays.resolve_left fun h => h ends.1).resolve_right (flies.mp ends.2)
        have fixed : (s.atTime t).drained b = s.atTime t := by simp only [State.drained, State.atTime_binding, pending]
        exact congrArg _ fixed
      · rfl
    · rw [if_pos ⟨finishing, none_waits, quiet_iff.mpr ends⟩]
    · rw [if_neg fun ⟨finishing, none_waits, ends⟩ => stays ⟨finishing, none_waits, quiet_iff.mp ends⟩]
      rfl
  · rintro t b s r rfl
    have queues : exec (.doneQueued t b) s = .next ((s.atTime t).queueDone b) := rfl
    have flies : (s.atTime t).inFlightOf b = false ↔ ¬ s.flies b := s.inFlightOf_eq_false_iff
    have accepts_iff : (s.atTime t).canAcceptDone = true ↔ s.acceptsDone := s.canAcceptDone_iff
    have first_iff : (s.atTime t).firstWaiting = some b ↔
        (s.binding b).donePending = .yes ∧ ∀ b' < b, (s.binding b').donePending ≠ .yes := s.firstWaiting_iff
    rw [queues]
    refine ⟨fun clip running pending hclip first accepts => ?_, fun pending draining landed => ?_, fun stays => ?_⟩
    · refine ⟨_, rfl, ?_⟩
      have notice : (s.binding b).doneNotice = .done clip (s.binding b).reason (s.binding b).effEnd := by
        simp only [Binding.doneNotice, hclip, Option.getD_some]
      have offered := State.offer_done (s := s.atTime t) running clip (s.binding b).reason (s.binding b).effEnd
      obtain ⟨last, counters⟩ := State.place_of_acceptsDone (s := s.atTime t) accepts (n := .done clip (s.binding b).reason
        (s.binding b).effEnd) rfl
      refine ⟨?_, ?_, ?_, ?_⟩
      · simp only [State.queueDone, State.atTime_binding, pending]
        rw [if_pos ⟨accepts_iff.mpr accepts, first_iff.mpr ⟨pending, first⟩⟩, notice, State.becomeIdle_eq_idled]
      · rw [offered]
        exact List.ne_nil_of_mem (List.mem_of_getLast? last)
      · rw [offered, last]
      · rw [offered, counters]
        rfl
    · simp only [State.queueDone, State.atTime_binding, pending]
      rw [← State.becomeIdle_eq_idled]
      exact congrArg _ (if_pos ⟨draining, flies.mpr landed⟩)
    · rcases stays with no | ⟨yes, blocked⟩ | ⟨suppressed, flying⟩
      · simp only [State.queueDone, State.atTime_binding, no]
        rfl
      · simp only [State.queueDone, State.atTime_binding, yes]
        rw [if_neg]
        · rfl
        · rintro ⟨accepts, first⟩
          rcases blocked with refuses | ⟨b', lt, waits⟩
          · exact refuses (accepts_iff.mp accepts)
          · exact (first_iff.mp first).2 b' lt waits
      · simp only [State.queueDone, State.atTime_binding, suppressed]
        refine congrArg _ (if_neg ?_)
        rintro ⟨draining, landed⟩
        exact flying.elim (fun h => h draining) (flies.mp landed)

end Sys2Proof.Machine
end

section
/-! The feed ports and the Source Table: signals, runs, the loss of lock, pieces of known sources and ageing (R25 to R41). -/

namespace Sys2Proof.Machine

variable {s : State} {p : PortNo}

/-! ### Changes of one port -/

theorem State.updPort_updPort (f g : Port → Port) : (s.updPort p f).updPort p g = s.updPort p (fun q => g (f q)) := by
  have read : (s.updPort p f).port p = f (s.port p) := by simp
  conv_lhs => rw [State.updPort, read, State.updPort, Vector.set_set]
  rfl

theorem State.updPort_congr {f g : Port → Port} (h : f (s.port p) = g (s.port p)) : s.updPort p f = s.updPort p g := by
  simp only [State.updPort, h]

@[simp] theorem State.atTime_port (s : State) (t : Time) (p : PortNo) : (s.atTime t).port p = s.port p := rfl

/-! ### Signals and bad pieces (R26, R28 to R30) -/

theorem State.signalOn_eq (s : State) (p : PortNo) :
    s.signalOn p = s.updPort p (fun q =>
      if q.line = .dark ∧ s.opts.enabled p ∧ s.onLane then { q with line := .seeking, good := 0, bad := 0, signal := true }
      else { q with signal := true }) := by
  have line : ((s.updPort p (fun q => { q with signal := true })).port p).line = (s.port p).line := by simp
  unfold State.signalOn
  dsimp only
  rw [line]
  split
  · next hunts =>
    rw [State.updPort_updPort]
    exact State.updPort_congr (if_pos hunts).symm
  · next stays => exact State.updPort_congr (if_neg stays).symm

/-- A command that brings a bad piece hands it to the port. -/
theorem exec_of_bringsBad {c : Instr} {t : Time} {order : List Nat} (h : bringsBad c t p order) :
    exec c s = .next ((s.atTime t).badPiece p order) := by
  rcases h with ⟨len, outside, rfl⟩ | ⟨piece, one_le, le_cell, bad, rfl⟩
  · have framed : ¬ lengthGood len.toNat = true := by rw [lengthGood_iff]; omega
    exact congrArg _ (if_neg framed)
  · have arm : exec (.pieceFramed t p piece order) s = execPieceFramed t p piece order s := rfl
    rw [arm, execPieceFramed, if_pos ((lengthGood_iff _).mpr ⟨one_le, le_cell⟩),
      if_neg (fun good => (pieceGood_iff _).mp good bad)]

theorem State.badPiece_of_seeking (seeking : (s.port p).line = .seeking) (order : List Nat) :
    s.badPiece p order = s.updPort p (fun q => { q with good := 0, badPieces := bump q.badPieces 1 }) := by
  simp only [State.badPiece, seeking]

theorem State.badPiece_of_locked (locked : (s.port p).line = .locked) (order : List Nat) :
    s.badPiece p order =
      if 7 ≤ (s.port p).bad then
        (s.updPort p (fun q =>
          { q with
            line := .seeking, good := 0, bad := 0, badPieces := bump q.badPieces 1
            lockLosses := bump q.lockLosses 1 })).leaveSets p order
      else s.updPort p (fun q => { q with bad := q.bad + 1, badPieces := bump q.badPieces 1 }) := by
  have run : 8 ≤ ((s.updPort p (fun q => { q with bad := q.bad + 1, badPieces := bump q.badPieces 1 })).port p).bad ↔
      7 ≤ (s.port p).bad := by
    simp only [State.port_updPort, if_true]
    omega
  simp only [State.badPiece, locked, run]
  split
  · rw [State.updPort_updPort]
    rfl
  · rfl

theorem State.goodPiece_of_short_run (seeking : (s.port p).line = .seeking) (short : (s.port p).good < 15) (piece : Piece) :
    s.goodPiece p piece = s.updPort p (fun q => { q with good := q.good + 1 }) := by
  have fewer : ¬ 16 ≤ (s.port p).good + 1 := by omega
  simp only [State.goodPiece, seeking, fewer, if_false]

/-- Settles O4: what each event of a line makes of a port that does not leave LOCKED. -/
theorem portsFollowTheirLines : Obligations.PortsFollowTheirLines := by
  constructor
  · intro t p order s
    have present : exec (.signalPresent t p) s = .next ((s.atTime t).signalOn p) := rfl
    have lost : exec (.signalLost t p order) s = .next ((s.atTime t).signalOff p order) := rfl
    rw [present, lost]
    constructor
    · rw [State.signalOn_eq]
      have same : ((s.port p).line = .dark ∧ s.opts.enables.getLsbD p.val = true ∧ (s.node = .running ∨ s.node = .restarting)) =
          ((s.port p).line = .dark ∧ (s.atTime t).opts.enabled p = true ∧ (s.atTime t).onLane = true) := by
        rw [State.onLane_iff]
        rfl
      simp only [State.updPort, State.atTime_port, same]
      rfl
    · intro unlocked
      exact congrArg _ (if_neg unlocked)
  · intro c t p s
    refine ⟨fun order bad => ⟨fun dark => ?_, fun seeking => ?_, fun locked few => ?_⟩,
      fun piece good => ⟨fun dark => ?_, fun seeking few => ?_, fun admits stopped => ?_⟩⟩
    · rw [exec_of_bringsBad bad]
      simp only [State.badPiece, State.atTime_port, dark]
      rfl
    · rw [exec_of_bringsBad bad, State.badPiece_of_seeking (s := s.atTime t) seeking]
      rfl
    · rw [exec_of_bringsBad bad, State.badPiece_of_locked (s := s.atTime t) locked]
      exact congrArg _ (if_neg (Nat.not_le.mpr few))
    · rw [exec_of_bringsGood good]
      simp only [State.goodPiece, State.atTime_port, dark]
      rfl
    · rw [exec_of_bringsGood good, State.goodPiece_of_short_run (s := s.atTime t) seeking few]
      rfl
    · rw [exec_of_bringsGood good, State.goodPiece_of_admits (s := s.atTime t) admits]
      exact congrArg _ (if_neg stopped)

/-! ### The SOURCEs of several entries (R41) -/

theorem Lane.takes_nil (l : Lane) : l.takes [] = l := by
  simp [Lane.takes]

theorem Lane.takes_takes (l : Lane) (a b : List Notice) : (l.takes a).takes b = l.takes (a ++ b) := by
  have length : (l.takes a).queue.length = l.queue.length + min (16 - l.queue.length) a.length := by
    simp [Lane.takes]
  have left : 16 - (l.takes a).queue.length = 16 - l.queue.length - a.length := by omega
  have tx : (l.takes a).tx = if l.tx = .idle ∧ a.take (16 - l.queue.length) ≠ [] then .defer else l.tx := rfl
  rw [Lane.takes, left, tx]
  by_cases idle : l.tx = .idle <;> by_cases empty : a.take (16 - l.queue.length) = [] <;>
    simp [Lane.takes, idle, empty, List.take_append]

/-- In RUNNING the SOURCEs of several entries join the queue, as many as it has places for. -/
theorem State.foldl_offerSource (running : s.node = .running) (event : SourceEvent) (l : List SourceEntry) :
    l.foldl (fun s e => s.offerSource e event) s = s.updLane (fun x => x.takes (l.map (fun e => e.notice event))) := by
  induction l generalizing s with
  | nil => simp [State.updLane, Lane.takes_nil]
  | cons e es ih =>
    rw [List.foldl_cons, State.offerSource_of_running running, ih (by simpa using running)]
    simp [State.updLane, Lane.takes_takes]

theorem SourceEntry.notice_eq (e : SourceEntry) (event : SourceEvent) :
    e.notice event = .source event e.source e.stream e.ports e.lastCount e.quality (decide (e.bound ≠ none)) := by
  unfold SourceEntry.notice
  cases e.bound <;> rfl

/-- A port that an entry does not hold leaves it as it is. -/
theorem SourceEntry.leave_of_absent {e : SourceEntry} (h : inPortSet e.ports p = false) : e.leave p = e := by
  have bits : e.ports &&& ~~~ portBit p = e.ports := by
    rw [portBit_eq_shift]
    ext i hi
    by_cases here : i = p.val
    · subst here
      simpa [inPortSet] using h.symm
    · have other : ¬ (i - p.val = 0 ∧ p.val ≤ i) := by omega
      simp only [BitVec.getElem_and, BitVec.getElem_not, BitVec.getElem_shiftLeft]
      by_cases below : i < p.val
      · simp [below]
      · have above : i - p.val ≠ 0 := by omega
        simp [below, above]
  unfold SourceEntry.leave
  rw [bits]

/-- What a port that leaves LOCKED makes of the Source Table and the queue (R31, R41). -/
theorem State.leaveSets_eq (s : State) (p : PortNo) (order : List Nat) :
    s.leaveSets p order = { s with
      sources := s.sources.map (fun e => e.leave p)
      lane :=
        if s.node = .running then
          s.lane.takes ((arrange order ((s.sources.filter (fun e => inPortSet e.ports p)).map (fun e => e.leave p))).map
            (fun e => e.notice .ports))
        else s.lane } := by
  have leaves : s.sources.map (fun e => if inPortSet e.ports p then e.leave p else e) = s.sources.map (fun e => e.leave p) := by
    refine List.map_congr_left fun e _ => ?_
    split
    · rfl
    · next absent => exact (SourceEntry.leave_of_absent (by simpa using absent)).symm
  unfold State.leaveSets
  rw [leaves]
  dsimp only
  split
  · next running =>
    rw [State.foldl_offerSource]
    · rfl
    · exact running
  · next stopped =>
    have none_offered : ∀ (l : List SourceEntry) (u : State), u.node ≠ .running →
        l.foldl (fun s e => s.offerSource e .ports) u = u := by
      intro l
      induction l with
      | nil => exact fun _ _ => rfl
      | cons e es ih =>
        intro u hu
        rw [List.foldl_cons, State.offerSource, if_neg hu]
        exact ih u hu
    exact none_offered _ _ stopped

/-- Settles O5: both ways out of LOCKED change the port and then every set that held it. -/
theorem lockLost : Obligations.LockLost := by
  intro c t p order s q locked leaves
  have leave_eq (e : SourceEntry) : e.leave p = { e with ports := e.ports &&& ~~~ (1#8 <<< p.val) } := by
    rw [← portBit_eq_shift]
    rfl
  refine ⟨arrange order ((s.sources.filter (fun e => inPortSet e.ports p)).map (fun e => e.leave p)), ?_, ?_⟩
  · simp only [leave_eq]
    exact arrange_perm _ _
  · have left : exec c s = .next (((s.atTime t).updPort p (fun _ => q)).leaveSets p order) := by
      rcases leaves with ⟨rfl, rfl⟩ | ⟨bad, run, rfl⟩
      · have lost : exec (.signalLost t p order) s = .next ((s.atTime t).signalOff p order) := rfl
        rw [lost, State.signalOff, State.atTime_port, if_pos locked, State.updPort_updPort]
        exact congrArg (fun x => Host.Outcome.next (State.leaveSets x p order)) (State.updPort_congr rfl)
      · rw [exec_of_bringsBad bad, State.badPiece_of_locked (s := s.atTime t) locked, State.atTime_port, if_pos run]
        exact congrArg (fun x => Host.Outcome.next (State.leaveSets x p order)) (State.updPort_congr rfl)
    rw [left, State.leaveSets_eq]
    simp only [leave_eq, SourceEntry.notice_eq]
    rfl

end Sys2Proof.Machine
end

section
/-! Pieces of known sources and the ageing of entries (R35 to R40), and the load of a valid option record (R189). -/

namespace Sys2Proof.Machine

variable {s : State} {p : PortNo}

/-! ### A piece of a known source (R36, R37, R40) -/

/-- The Source Table after a piece of an entry: the entry is updated, and a port that joins its set is announced. -/
def State.entryHeard (s : State) (e e' : SourceEntry) (p : PortNo) : State :=
  { s with
    sources := s.sources.map (fun x => if x.source = e.source ∧ x.stream = e.stream then e' else x)
    lane := if e.ports.getLsbD p.val then s.lane else s.lane.takes [e'.notice .ports] }

theorem State.entryPiece_eq (running : s.node = .running) (e : SourceEntry) (piece : Piece) :
    s.entryPiece e p piece =
      match e.bound with
      | none => s.entryHeard e (e.heard s p piece) p
      | some b =>
        (if (e.heard s p piece).quality = e.quality then s.entryHeard e (e.heard s p piece) p
        else (s.entryHeard e (e.heard s p piece) p).recomputeGrade b).routePiece b piece := by
  have heard : (if inPortSet e.ports p then s.updEntry e.source e.stream (fun _ => e.heard s p piece)
      else (s.updEntry e.source e.stream (fun _ => e.heard s p piece)).offerSource (e.heard s p piece) .ports) =
      s.entryHeard e (e.heard s p piece) p := by
    unfold State.entryHeard inPortSet
    split
    · rfl
    · rw [State.offerSource_of_running]
      · rfl
      · exact running
  unfold State.entryPiece
  dsimp only
  rw [heard] <;> rfl

/-- Settles O7: the admitting port hands the piece to the entry, and the entry hands it to its binding. -/
theorem knownSourcePiece : Obligations.KnownSourcePiece := by
  rintro c t p piece s e e' v brings admits running entry he' rfl
  let u := (s.atTime t).updPort p Port.afterAdmitted
  obtain ⟨-, source, stream⟩ := State.entry?_some entry
  have heard : e.heard u p piece = e' := by
    rw [he', ← portBit_eq_shift]
    rfl
  have admitted : exec c s = .next (u.entryPiece e p piece) := by
    have found : u.entry? piece.source piece.stream = some e := entry
    rw [exec_of_bringsGood brings, State.goodPiece_of_admits (s := s.atTime t) admits, State.admitPiece]
    refine congrArg _ ((if_pos running).trans ?_)
    rw [found]
  have table : u.entryHeard e e' p = { s with
      now := t
      ports := s.ports.set p (s.port p).afterAdmitted
      sources := s.sources.map (fun x => if x.source = piece.source ∧ x.stream = piece.stream then e' else x)
      lane :=
        if e.ports.getLsbD p.val then s.lane
        else
          s.lane.takes
            [.source .ports e'.source e'.stream e'.ports e'.lastCount e'.quality (decide (e'.bound ≠ none))] } := by
    unfold State.entryHeard
    rw [SourceEntry.notice_eq, source, stream]
    rfl
  rw [admitted, State.entryPiece_eq (s := u) running, heard, table] <;> rfl

/-! ### Ageing (R39) -/

/-- Settles O8: an entry whose removal's three conditions hold leaves the table and is announced in RUNNING. -/
theorem sourceAgesOut : Obligations.SourceAgesOut := by
  rintro t source stream s e heard tick entry rfl
  have ages : exec (.sourceAgeOut t source stream) s = .next ((s.atTime t).ageOut source stream) :=
    congrArg _ (if_pos (decide_eq_true tick))
  have found : (s.atTime t).entry? source stream = some e := entry
  obtain ⟨-, hsource, hstream⟩ := State.entry?_some entry
  rw [ages, State.ageOut, found]
  refine ⟨fun old => ?_, fun young => congrArg _ (if_neg young)⟩
  refine congrArg _ ((if_pos old).trans ?_)
  obtain ⟨-, unbound, -⟩ := old
  have notice : ({ e with ports := 0 } : SourceEntry).notice .gone = .source .gone source stream 0 e.lastCount e.quality false := by
    simp only [SourceEntry.notice, hsource, hstream, unbound, Option.isSome_none]
  by_cases running : s.node = .running
  · rw [State.offerSource_of_running, notice, if_pos running]
    · rfl
    · exact running
  · rw [if_neg running]
    exact if_neg running

/-! ### The load of a valid record (R189) -/

theorem foldl_updPort_port (f : PortNo → Port → Port) {l : List PortNo} (distinct : l.Nodup) (s : State) (x : PortNo) :
    (l.foldl (fun s p => s.updPort p (f p)) s).port x = if x ∈ l then f x (s.port x) else s.port x := by
  induction l generalizing s with
  | nil => simp
  | cons p ps ih =>
    obtain ⟨fresh, rest⟩ := List.nodup_cons.mp distinct
    rw [List.foldl_cons, ih rest, State.port_updPort]
    by_cases here : x = p
    · subst here
      simp [fresh]
    · simp [here]

theorem foldl_updPort_frame (f : PortNo → Port → Port) (l : List PortNo) (s : State) :
    l.foldl (fun s p => s.updPort p (f p)) s = { s with ports := (l.foldl (fun s p => s.updPort p (f p)) s).ports } := by
  induction l generalizing s with
  | nil => rfl
  | cons p ps ih =>
    rw [List.foldl_cons]
    conv_lhs => rw [ih]
    rfl

/-- What a port becomes when the node begins to run (R33). -/
def Options.starts (o : Options) (p : PortNo) (q : Port) : Port := if q.signal ∧ o.enabled p then q.seek else q

theorem State.startPorts_eq (s : State) : s.startPorts = allPorts.foldl (fun u p => u.updPort p (s.opts.starts p)) s := by
  have steps : ∀ (l : List PortNo) (u : State), u.opts = s.opts →
      l.foldl (fun s p => if (s.port p).signal ∧ s.opts.enabled p then s.updPort p Port.seek else s) u =
        l.foldl (fun u p => u.updPort p (s.opts.starts p)) u := by
    intro l
    induction l with
    | nil => exact fun _ _ => rfl
    | cons p ps ih =>
      intro u hu
      have one : (if (u.port p).signal ∧ u.opts.enabled p then u.updPort p Port.seek else u) = u.updPort p (s.opts.starts p) := by
        rw [hu]
        split
        · next hunts => exact State.updPort_congr (if_pos hunts).symm
        · next stays =>
          have fixed : s.opts.starts p (u.port p) = u.port p := if_neg stays
          rw [State.updPort, fixed, State.port, Fin.getElem_fin, Vector.set_getElem_self]
      rw [List.foldl_cons, List.foldl_cons, one]
      exact ih _ hu
  exact steps allPorts s rfl

theorem State.startPorts_port (s : State) (p : PortNo) : s.startPorts.port p = s.opts.starts p (s.port p) := by
  rw [State.startPorts_eq, foldl_updPort_port _ (by decide), if_pos (mem_allPorts p)]

theorem State.startPorts_frame (s : State) : s.startPorts = { s with ports := s.startPorts.ports } := by
  rw [State.startPorts_eq]
  exact foldl_updPort_frame _ _ _

/-- A station number that is not 0 leaves neither register at 0 (R159, R168). -/
theorem lfsrSeed_of_station {constant : BitVec 16} (h : constant = 0xACE1 ∨ constant = 0x1D0F) (x : Station) :
    lfsrSeed constant x = constant ^^^ BitVec.ofNat 16 (x.val * 0x0101) := by
  have all : ∀ x : Fin 32, 0xACE1 ^^^ BitVec.ofNat 16 (x.val * 0x0101) ≠ 0 ∧ 0x1D0F ^^^ BitVec.ofNat 16 (x.val * 0x0101) ≠ 0 := by
    decide
  rcases h with rfl | rfl
  · exact if_neg (all x).1
  · exact if_neg (all x).2

/-- A PRESENCE that is offered to an empty queue waits alone. -/
theorem State.announce_of_empty (onLane : s.onLane = true) (empty : s.lane.queue = []) (idle : s.lane.tx = .idle) :
    s.announce = { s with lane := { s.lane with
      queue := [.presence s.presence], tx := .defer, nextPresence := some (msTime s.now + ms s.opts.presence) } } := by
  have open_none : s.lane.openNotices = [] := by simp [Lane.openNotices, empty, idle]
  have offered : s.offer (.presence s.presence) = s.updLane (fun l => l.join (.presence s.presence)) := by
    rw [State.offer, if_pos onLane, open_none, if_neg (by simp), State.place,
      if_pos (by rw [empty]; decide)]
    nofun
  rw [State.announce, offered]
  simp [State.updLane, Lane.join, empty, idle]

/-- The state in which a valid record's options are in force, before the ports hunt (R159, R168, R184, R189). -/
def State.withOptions (s : State) (o : Options) : State :=
  { s with
    node := .running
    opts := o
    loaded := true
    house := { s.house with period := o.housePeriod, lastFrame := s.now }
    browse := { s.browse with lfsr := lfsrSeed Config.thinningSeed o.station }
    lane := { s.lane with lfsr := lfsrSeed Config.holdoffSeed o.station } }

theorem State.loadOptions_of_valid {bytes : List Byte} (valid : optionsValid bytes = true) :
    s.loadOptions bytes = (s.withOptions (readOptions bytes)).startPorts.announce := if_pos valid

/-- A node that comes to run with an empty queue: its ports hunt and its PRESENCE waits. -/
theorem State.withOptions_announced (o : Options) (empty : s.lane.queue = []) (idle : s.lane.tx = .idle) :
    (s.withOptions o).startPorts.announce =
      { s.withOptions o with
        ports := (s.withOptions o).startPorts.ports
        lane := { (s.withOptions o).lane with
          queue := [.presence ({ s.withOptions o with ports := (s.withOptions o).startPorts.ports } : State).presence]
          tx := .defer
          nextPresence := some (msTime s.now + ms o.presence) } } := by
  have frame := (s.withOptions o).startPorts_frame
  generalize (s.withOptions o).startPorts = v at frame ⊢
  rw [State.announce_of_empty]
  · rw [frame]
    rfl
  · rw [frame]
    rfl
  · rw [frame]
    exact empty
  · rw [frame]
    exact idle

theorem enabled_readOptions (bytes : List Byte) (p : PortNo) :
    (readOptions bytes).enabled p = (BitVec.ofNat 8 (field bytes 1 1)).getLsbD p.val := rfl

theorem housePeriod_readOptions (bytes : List Byte) :
    max 10000 (min 100000 (field bytes 17 4)) = (readOptions bytes).housePeriod := rfl

theorem station_val_readOptions (bytes : List Byte) : (readOptions bytes).station.val = field bytes 0 1 % 32 := rfl

/-- Settles O2: a valid record gives the state with the options on, its ports hunt, and the PRESENCE waits alone. -/
theorem optionLoadRuns : Obligations.OptionLoadRuns := by
  intro t bytes s loading empty idle crc station
  have valid : optionsValid bytes.toList = true := decide_eq_true ⟨crc, station⟩
  have loads : exec (.optionLoad t bytes) s =
      .next ((s.atTime t).withOptions (readOptions bytes.toList)).startPorts.announce := by
    rw [← State.loadOptions_of_valid valid]
    exact congrArg _ (if_pos loading)
  refine ⟨_, loads, ?_⟩
  rw [State.withOptions_announced (s := s.atTime t) _ empty idle]
  have ports := State.startPorts_port ((s.atTime t).withOptions (readOptions bytes.toList))
  generalize ((s.atTime t).withOptions (readOptions bytes.toList)).startPorts = v at ports ⊢
  constructor
  · rw [← station_val_readOptions, ← lfsrSeed_of_station (.inl rfl), ← lfsrSeed_of_station (.inr rfl)]
    rfl
  · exact ports

end Sys2Proof.Machine
end

section
/-! Frames on the lane: what the receiver makes of a frame and of its prefixes (R171), and the commands that notices are heard
as (R197 to R200). -/

namespace Sys2Proof.Machine

/-! ### Fields of appended bytes (R197) -/

theorem field_bytesOf_append (n v : Nat) (rest : List Byte) : field (bytesOf n v ++ rest) 0 n = v % 256 ^ n := by
  rw [field, slice, List.drop_zero, List.take_left' (length_bytesOf n v), valueOf_bytesOf]

theorem field_bytesOf (n v : Nat) : field (bytesOf n v) 0 n = v % 256 ^ n := by
  simpa using field_bytesOf_append n v []

theorem field_append_right {a : List Byte} {offset : Nat} (h : a.length ≤ offset) (b : List Byte) (n : Nat) :
    field (a ++ b) offset n = field b (offset - a.length) n := by
  rw [field, slice, List.drop_append, List.drop_of_length_le h, List.nil_append, field, slice]

theorem bytesOf_one (v : Nat) : bytesOf 1 v = [BitVec.ofNat 8 v] := by simp [bytesOf]

theorem valueOf_singleton (x : Byte) : valueOf [x] = x.toNat := by simp [valueOf]

/-! ### What the receiver makes of a frame -/

/-- A frame with a station byte, a kind, a body and a check of 16 bits (R199). -/
def laneFrame (station kind : Byte) (body : List Byte) (crc : BitVec 16) : List Byte :=
  [0x9B, 0x26] ++ (station :: kind :: BitVec.ofNat 8 body.length :: body) ++ bytesOf 2 crc.toNat

section Frame

variable (station kind : Byte) (body : List Byte) (crc : BitVec 16)

theorem length_laneFrame : (laneFrame station kind body crc).length = 7 + body.length := by
  simp [laneFrame]
  omega

theorem laneFrame_length_field (short : body.length ≤ 255) : field (laneFrame station kind body crc) 4 1 = body.length := by
  have byte : (BitVec.ofNat 8 body.length).toNat = body.length := by
    rw [BitVec.toNat_ofNat]
    omega
  simpa [field, slice, laneFrame, valueOf_singleton] using byte

theorem laneFrame_station_field : field (laneFrame station kind body crc) 2 1 = station.toNat := by
  simp [field, slice, laneFrame, valueOf_singleton]

theorem laneFrame_kind_field : field (laneFrame station kind body crc) 3 1 = kind.toNat := by
  simp [field, slice, laneFrame, valueOf_singleton]

theorem laneFrame_covered :
    slice (laneFrame station kind body crc) 2 (3 + body.length) = station :: kind :: BitVec.ofNat 8 body.length :: body := by
  have split : laneFrame station kind body crc =
      [0x9B, 0x26] ++ ((station :: kind :: BitVec.ofNat 8 body.length :: body) ++ bytesOf 2 crc.toNat) := by
    simp [laneFrame]
  rw [slice, split, List.drop_left' (by rfl), List.take_left' (by simp; omega)]

theorem laneFrame_crc_field : field (laneFrame station kind body crc) (5 + body.length) 2 = crc.toNat := by
  have before : ([0x9B, 0x26] ++ (station :: kind :: BitVec.ofNat 8 body.length :: body) : List Byte).length = 5 + body.length := by
    simp
    omega
  rw [laneFrame, field_append_right (by rw [before]), before, Nat.sub_self, field_bytesOf]
  exact Nat.mod_eq_of_lt crc.isLt

theorem laneFrame_body : slice (laneFrame station kind body crc) 5 body.length = body := by
  have split : laneFrame station kind body crc =
      [0x9B, 0x26, station, kind, BitVec.ofNat 8 body.length] ++ (body ++ bytesOf 2 crc.toNat) := by
    simp [laneFrame]
  rw [slice, split, List.drop_left' (by rfl), List.take_left' rfl]

/-- The checks of R171 on a whole frame. -/
theorem hear_laneFrame (short : body.length ≤ 255) :
    hear (laneFrame station kind body crc) =
      if crc ≠ crc16 (station :: kind :: BitVec.ofNat 8 body.length :: body) then .crcError
      else if h : station.toNat < 32 then
        if 64 < body.length ∨ body.length ∉ allowedLengths kind.toNat then .framingError
        else .intact ⟨station.toNat, h⟩ kind body
      else .framingError := by
  have sync : (laneFrame station kind body crc).take 2 = noticeSync := rfl
  have whole : ¬ ((laneFrame station kind body crc).length < 7 ∨
      (laneFrame station kind body crc).length < 7 + body.length) := by
    rw [length_laneFrame]
    omega
  have check : (crc16 (station :: kind :: BitVec.ofNat 8 body.length :: body)).toNat ≠ crc.toNat ↔
      crc ≠ crc16 (station :: kind :: BitVec.ofNat 8 body.length :: body) := by
    rw [ne_eq, BitVec.toNat_inj, eq_comm]
  simp only [hear, laneFrame_length_field station kind body crc short, laneFrame_station_field, laneFrame_kind_field,
    laneFrame_covered, laneFrame_crc_field, laneFrame_body, BitVec.ofNat_toNat, BitVec.setWidth_eq]
  rw [if_neg (not_not.mpr sync), if_neg whole]
  simp only [check, gt_iff_lt]

/-- What begins a frame and is not the whole of it is no frame or a fragment (R171). -/
theorem hear_take_laneFrame (short : body.length ≤ 255) {n : Nat} (h : n < (laneFrame station kind body crc).length) :
    hear ((laneFrame station kind body crc).take n) = .noFrame ∨ hear ((laneFrame station kind body crc).take n) = .fragment := by
  rw [length_laneFrame] at h
  have length : ((laneFrame station kind body crc).take n).length = n := by
    rw [List.length_take, length_laneFrame]
    omega
  have cut : ((laneFrame station kind body crc).take n).length < 7 ∨
      ((laneFrame station kind body crc).take n).length < 7 + field ((laneFrame station kind body crc).take n) 4 1 := by
    rw [length]
    by_cases few : n < 7
    · exact .inl few
    · have same : field ((laneFrame station kind body crc).take n) 4 1 = field (laneFrame station kind body crc) 4 1 := by
        rw [field, field, slice, slice, List.drop_take, List.take_take, Nat.min_eq_left (by omega)]
      rw [same, laneFrame_length_field station kind body crc short]
      exact .inr h
  by_cases sync : ((laneFrame station kind body crc).take n).take 2 = noticeSync
  · exact .inr ((if_neg (not_not.mpr sync)).trans (if_pos cut))
  · exact .inl (if_pos sync)

end Frame

section Undelivered

variable {s : State} {bytes : List Byte}

theorem State.hearUndelivered_off (off : s.node = .loading ∨ s.node = .listening) : s.hearUndelivered bytes = s := by
  refine if_neg fun on => ?_
  rcases State.onLane_iff.mp on with h | h <;> rcases off with h' | h' <;> cases h.symm.trans h'

variable (on : s.node = .running ∨ s.node = .restarting)
include on

theorem State.hearUndelivered_none (h : hear bytes = .noFrame ∨ hear bytes = .fragment) : s.hearUndelivered bytes = s := by
  rw [State.hearUndelivered, if_pos (State.onLane_iff.mpr on)]
  rcases h with h | h <;> rw [h]

theorem State.hearUndelivered_crcError (h : hear bytes = .crcError) :
    s.hearUndelivered bytes = s.updCounters (fun c => { c with crcErrors := oneMore c.crcErrors }) := by
  rw [State.hearUndelivered, if_pos (State.onLane_iff.mpr on), h]
  rfl

theorem State.hearUndelivered_framingError (h : hear bytes = .framingError) :
    s.hearUndelivered bytes = s.updCounters (fun c => { c with framingErrors := oneMore c.framingErrors }) := by
  rw [State.hearUndelivered, if_pos (State.onLane_iff.mpr on), h]
  rfl

theorem State.hearUndelivered_intact {x : Station} {kind : Byte} {body : List Byte} (h : hear bytes = .intact x kind body) :
    s.hearUndelivered bytes = s.receive x kind body (fun s => s) := by
  rw [State.hearUndelivered, if_pos (State.onLane_iff.mpr on), h]

end Undelivered

/-- Settles O41: the prefixes and frames that are heard are those of the checks, and an intact frame of another station that
no block takes goes by. -/
theorem framesAreHeard : Obligations.FramesAreHeard := by
  rintro t station kind body covered frame crc s v short rfl hframe rfl
  obtain rfl : frame = laneFrame station kind body crc := hframe
  have hears (bytes : List Byte) : exec (.noticeNotDelivered t bytes) s = .next ((s.atTime t).hearUndelivered bytes) := rfl
  have heard := hear_laneFrame station kind body crc short
  refine ⟨fun off => ?_, fun on => ⟨fun n cut => ?_, fun wrong => ?_, fun right odd => ?_, fun right low other fits allowed => ?_⟩⟩
  · rw [hears, State.hearUndelivered_off (s := s.atTime t) off]
    rfl
  · rw [hears, State.hearUndelivered_none (s := s.atTime t) on (hear_take_laneFrame station kind body crc short cut)]
    rfl
  · rw [if_pos wrong] at heard
    rw [hears, State.hearUndelivered_crcError (s := s.atTime t) on heard]
    rfl
  · have framing : hear (laneFrame station kind body crc) = .framingError := by
      rw [heard, if_neg (not_not.mpr right)]
      split
      · exact if_pos (odd.resolve_left (by omega))
      · rfl
    rw [hears, State.hearUndelivered_framingError (s := s.atTime t) on framing]
    rfl
  · rw [if_neg (not_not.mpr right), dif_pos (by omega), if_neg (by simp [allowed]; omega)] at heard
    rw [hears, State.hearUndelivered_intact (s := s.atTime t) on heard, State.receive_of_other (s := s.atTime t) on]
    · rfl
    · exact fun same => other (congrArg Fin.val same)

/-! ### A wire frame is heard (R199) -/

theorem wireFrame_eq (station : Station) (kind : Byte) (body : List Byte) :
    wireFrame station kind body = laneFrame (BitVec.ofNat 8 station.val) kind body
      (crc16 (BitVec.ofNat 8 station.val :: kind :: BitVec.ofNat 8 body.length :: body)) := by
  simp [wireFrame, laneFrame, bytesOf_one, noticeSync]

theorem hear_wireFrame {station : Station} {kind : Byte} {body : List Byte} (fits : body.length ≤ 64)
    (allowed : body.length ∈ allowedLengths kind.toNat) : hear (wireFrame station kind body) = .intact station kind body := by
  have byte : (BitVec.ofNat 8 station.val).toNat = station.val := by
    have := station.isLt
    rw [BitVec.toNat_ofNat]
    omega
  rw [wireFrame_eq, hear_laneFrame _ _ _ _ (by omega), if_neg (not_not.mpr rfl), dif_pos (by omega),
    if_neg (by simp [allowed]; omega)]
  simp only [byte]

end Sys2Proof.Machine
end

section
/-! A command that is a notice, framed, heard and read, is that command again (R171, R197 to R200). -/

namespace Sys2Proof.Machine

/-! ### A field that was written is read (R197) -/

/-- A value of `w` bits written in `n` bytes in front of others is read again. -/
theorem ofNat_field_append {w n : Nat} (h : w = 8 * n) (x : BitVec w) (rest : List Byte) :
    BitVec.ofNat w (field (bytesOf n x.toNat ++ rest) 0 n) = x := by
  rw [field_bytesOf_append, Nat.mod_eq_of_lt]
  · simp
  · have size : 256 ^ n = 2 ^ w := by rw [h, pow_mul]; rfl
    exact size ▸ x.isLt

theorem ofNat_field {w n : Nat} (h : w = 8 * n) (x : BitVec w) : BitVec.ofNat w (field (bytesOf n x.toNat) 0 n) = x := by
  simpa using ofNat_field_append h x []

theorem toNat_field {w n : Nat} (h : w = 8 * n) (x : BitVec w) : field (bytesOf n x.toNat) 0 n = x.toNat := by
  rw [field_bytesOf, Nat.mod_eq_of_lt]
  have size : 256 ^ n = 2 ^ w := by rw [h, pow_mul]; rfl
  exact size ▸ x.isLt

/-- What stands in front of a field does not matter. -/
theorem field_skip (m v : Nat) (rest : List Byte) {offset : Nat} (h : m ≤ offset) (n : Nat) :
    field (bytesOf m v ++ rest) offset n = field rest (offset - m) n := by
  rw [field_append_right (by rwa [length_bytesOf]), length_bytesOf]

theorem field_drop (a rest : List Byte) (n : Nat) : field (a ++ rest) a.length n = field rest 0 n := by
  rw [field_append_right (Nat.le_refl _), Nat.sub_self]

/-! ### Requests and runs (R200) -/

theorem length_requestBody (r : Request) : (requestBody r).length = 63 := by
  unfold requestBody
  simp only [List.length_append]
  simp only [length_bytesOf]

theorem readRequest_requestBody (r : Request) : readRequest (requestBody r) = r := by
  unfold readRequest requestBody
  simp only [List.append_assoc]
  simp (disch := decide) only [field_skip]
  simp only [Nat.reduceSub, Nat.sub_self]
  simp (disch := rfl) only [ofNat_field_append, ofNat_field]

theorem length_wireRunBytes (r : WireRun) : (wireRunBytes r).length = 7 := by simp [wireRunBytes]

theorem length_flatMap_wireRunBytes (runs : List WireRun) : (runs.flatMap wireRunBytes).length = 7 * runs.length := by
  induction runs with
  | nil => rfl
  | cons r rs ih => simp [length_wireRunBytes, ih]; omega

theorem readRuns_append (runs : List WireRun) (pre : List Byte) :
    readRuns (pre ++ runs.flatMap wireRunBytes) runs.length pre.length = runs := by
  induction runs generalizing pre with
  | nil => rfl
  | cons r rs ih =>
    have next := ih (pre ++ wireRunBytes r)
    rw [List.append_assoc, List.length_append, length_wireRunBytes] at next
    have start : BitVec.ofNat 24 (field (pre ++ (wireRunBytes r ++ rs.flatMap wireRunBytes)) pre.length 3) = r.start := by
      rw [field_append_right (by omega), Nat.sub_self]
      simp [wireRunBytes, ofNat_field_append]
    have count : BitVec.ofNat 24 (field (pre ++ (wireRunBytes r ++ rs.flatMap wireRunBytes)) (pre.length + 3) 3) = r.count := by
      rw [field_append_right (by omega), Nat.add_sub_cancel_left]
      simp [wireRunBytes, field_skip, ofNat_field_append]
    have kind : BitVec.ofNat 8 (field (pre ++ (wireRunBytes r ++ rs.flatMap wireRunBytes)) (pre.length + 6) 1) = r.kind := by
      rw [field_append_right (by omega), Nat.add_sub_cancel_left]
      simp [wireRunBytes, field_skip, ofNat_field_append]
    rw [List.flatMap_cons, List.length_cons, readRuns, start, count, kind, next]

/-! ### Commands (R174, R200) -/

theorem commandOf_of_allowed {kind : Byte} {body : List Byte} (allowed : body.length ∈ allowedLengths kind.toNat) (t : Time)
    (station : Station) (order : List Nat) :
    commandOf t station order kind body = (match kind.toNat with
      | 0x11 => some (.record t station (readRequest body) order)
      | 0x12 =>
        if field body 4 3 = Config.noStop then some (.immediateStop t station (BitVec.ofNat 32 (field body 0 4)))
        else some (.stop t station (BitVec.ofNat 32 (field body 0 4)) (BitVec.ofNat 24 (field body 4 3)))
      | 0x13 => some (.abort t station (BitVec.ofNat 32 (field body 0 4)))
      | 0x14 =>
        if field body 1 4 = 0 then some (.queryNode t station (BitVec.ofNat 8 (field body 0 1)))
        else some (.queryBinding t station (BitVec.ofNat 8 (field body 0 1)) (BitVec.ofNat 32 (field body 1 4)))
      | 0x15 => some (.restart t station (BitVec.ofNat 8 (field body 0 1)))
      | 0x22 =>
        some (.take t station (BitVec.ofNat 32 (field body 0 4)) (BitVec.ofNat 8 (field body 4 1))
          (BitVec.ofNat 8 (field body 5 1)) (BitVec.ofNat 8 (field body 6 1)))
      | 0x24 =>
        some (.extent t station (BitVec.ofNat 32 (field body 0 4)) (BitVec.ofNat 8 (field body 4 1))
          (BitVec.ofNat 24 (field body 5 3)) (readRuns body ((body.length - 8) / 7) 8))
      | 0x25 =>
        some (.done t station (BitVec.ofNat 32 (field body 0 4)) (BitVec.ofNat 8 (field body 4 1))
          (BitVec.ofNat 24 (field body 5 3)))
      | _ => none) := by
  exact if_neg (not_not.mpr allowed)

theorem length_le_of_allowed {body : List Byte} {kind : Nat} (h : body.length ∈ allowedLengths kind) : body.length ≤ 64 := by
  unfold allowedLengths at h
  split at h <;> simp at h <;> omega

/-- The body is of a length that its kind allows, and the command is read from it. -/
def ReadsFrom (i : Instr) (t : Time) (station : Station) (kind : Byte) (body : List Byte) : Prop :=
  body.length ∈ allowedLengths kind.toNat ∧ ∃ order, commandOf t station order kind body = some i

theorem readsFrom_of {i : Instr} {t : Time} {station : Station} {kind : Byte} {body : List Byte} {order : List Nat}
    (allowed : body.length ∈ allowedLengths kind.toNat) (read : commandOf t station order kind body = some i) :
    ReadsFrom i t station kind body := ⟨allowed, order, read⟩

section
variable (t : Time) (station : Station) (clip : Clip)

theorem record_readsFrom (req : Request) (order : List Nat) :
    ReadsFrom (Instr.record t station req order) t station 0x11 (requestBody req) := by
  have allowed : (requestBody req).length ∈ allowedLengths 0x11 := by rw [length_requestBody]; decide
  refine readsFrom_of (kind := 0x11) (order := order) allowed ?_
  rw [commandOf_of_allowed allowed]
  exact congrArg (fun r => some (Instr.record t station r order)) (readRequest_requestBody req)

theorem stop_readsFrom (p : BitVec 24) (position : p.toNat ≠ Config.noStop) :
    ReadsFrom (Instr.stop t station clip p) t station 0x12 (bytesOf 4 clip.toNat ++ bytesOf 3 p.toNat) := by
  have allowed : (bytesOf 4 clip.toNat ++ bytesOf 3 p.toNat).length ∈ allowedLengths 0x12 := by
    rw [List.length_append, length_bytesOf, length_bytesOf]; decide
  have read : field (bytesOf 4 clip.toNat ++ bytesOf 3 p.toNat) 4 3 = p.toNat := by
    rw [field_skip _ _ _ (by decide)]; exact toNat_field (w := 24) rfl p
  refine readsFrom_of (kind := 0x12) (order := []) allowed ?_
  rw [commandOf_of_allowed allowed]
  refine (if_neg (fun none => position (read.symm.trans none))).trans ?_
  simp (disch := rfl) only [ofNat_field_append, read, BitVec.ofNat_toNat, BitVec.setWidth_eq]

theorem immediateStop_readsFrom :
    ReadsFrom (Instr.immediateStop t station clip) t station 0x12 (bytesOf 4 clip.toNat ++ bytesOf 3 Config.noStop) := by
  have allowed : (bytesOf 4 clip.toNat ++ bytesOf 3 Config.noStop).length ∈ allowedLengths 0x12 := by
    rw [List.length_append, length_bytesOf, length_bytesOf]; decide
  have read : field (bytesOf 4 clip.toNat ++ bytesOf 3 Config.noStop) 4 3 = Config.noStop := by
    rw [field_skip _ _ _ (by decide)]; exact toNat_field (w := 24) rfl (BitVec.ofNat 24 Config.noStop)
  refine readsFrom_of (kind := 0x12) (order := []) allowed ?_
  rw [commandOf_of_allowed allowed]
  refine (if_pos read).trans ?_
  simp (disch := rfl) only [ofNat_field_append]

theorem abort_readsFrom : ReadsFrom (Instr.abort t station clip) t station 0x13 (bytesOf 4 clip.toNat) := by
  have allowed : (bytesOf 4 clip.toNat).length ∈ allowedLengths 0x13 := by rw [length_bytesOf]; decide
  refine readsFrom_of (kind := 0x13) (order := []) allowed ?_
  rw [commandOf_of_allowed allowed]
  exact congrArg (fun c => some (Instr.abort t station c)) (ofNat_field (w := 32) rfl clip)

theorem queryBinding_readsFrom (target : Byte) (named : clip ≠ 0) :
    ReadsFrom (Instr.queryBinding t station target clip) t station 0x14 (bytesOf 1 target.toNat ++ bytesOf 4 clip.toNat) := by
  have allowed : (bytesOf 1 target.toNat ++ bytesOf 4 clip.toNat).length ∈ allowedLengths 0x14 := by
    rw [List.length_append, length_bytesOf, length_bytesOf]; decide
  have read : field (bytesOf 1 target.toNat ++ bytesOf 4 clip.toNat) 1 4 = clip.toNat := by
    rw [field_skip _ _ _ (by decide)]; exact toNat_field (w := 32) rfl clip
  refine readsFrom_of (kind := 0x14) (order := []) allowed ?_
  rw [commandOf_of_allowed allowed]
  refine (if_neg ?_).trans ?_
  · rw [read]; exact fun zero => named (BitVec.eq_of_toNat_eq zero)
  · simp (disch := rfl) only [ofNat_field_append, read, BitVec.ofNat_toNat, BitVec.setWidth_eq]

theorem queryNode_readsFrom (target : Byte) :
    ReadsFrom (Instr.queryNode t station target) t station 0x14 (bytesOf 1 target.toNat ++ bytesOf 4 0) := by
  have allowed : (bytesOf 1 target.toNat ++ bytesOf 4 0).length ∈ allowedLengths 0x14 := by
    rw [List.length_append, length_bytesOf, length_bytesOf]; decide
  have read : field (bytesOf 1 target.toNat ++ bytesOf 4 0) 1 4 = 0 := by
    rw [field_skip _ _ _ (by decide)]; exact toNat_field (w := 32) rfl (0 : BitVec 32)
  refine readsFrom_of (kind := 0x14) (order := []) allowed ?_
  rw [commandOf_of_allowed allowed]
  refine (if_pos read).trans ?_
  simp (disch := rfl) only [ofNat_field_append]

theorem restart_readsFrom (target : Byte) : ReadsFrom (Instr.restart t station target) t station 0x15 (bytesOf 1 target.toNat) := by
  have allowed : (bytesOf 1 target.toNat).length ∈ allowedLengths 0x15 := by rw [length_bytesOf]; decide
  refine readsFrom_of (kind := 0x15) (order := []) allowed ?_
  rw [commandOf_of_allowed allowed]
  exact congrArg (fun c => some (Instr.restart t station c)) (ofNat_field (w := 8) rfl target)

theorem take_readsFrom (grade role primary : Byte) :
    ReadsFrom (Instr.take t station clip grade role primary) t station 0x22
      (bytesOf 4 clip.toNat ++ bytesOf 1 grade.toNat ++ bytesOf 1 role.toNat ++ bytesOf 1 primary.toNat) := by
  have allowed : (bytesOf 4 clip.toNat ++ bytesOf 1 grade.toNat ++ bytesOf 1 role.toNat ++ bytesOf 1 primary.toNat).length ∈
      allowedLengths 0x22 := by
    simp only [List.length_append, length_bytesOf]; decide
  refine readsFrom_of (kind := 0x22) (order := []) allowed ?_
  rw [commandOf_of_allowed allowed]
  simp only [List.append_assoc]
  simp (disch := decide) only [field_skip]
  simp only [Nat.reduceSub, Nat.sub_self]
  simp (disch := rfl) only [ofNat_field_append, ofNat_field]
  rfl

theorem done_readsFrom (reason : Byte) (e : BitVec 24) :
    ReadsFrom (Instr.done t station clip reason e) t station 0x25
      (bytesOf 4 clip.toNat ++ bytesOf 1 reason.toNat ++ bytesOf 3 e.toNat) := by
  have allowed : (bytesOf 4 clip.toNat ++ bytesOf 1 reason.toNat ++ bytesOf 3 e.toNat).length ∈ allowedLengths 0x25 := by
    simp only [List.length_append, length_bytesOf]; decide
  refine readsFrom_of (kind := 0x25) (order := []) allowed ?_
  rw [commandOf_of_allowed allowed]
  simp only [List.append_assoc]
  simp (disch := decide) only [field_skip]
  simp only [Nat.reduceSub, Nat.sub_self]
  simp (disch := rfl) only [ofNat_field_append, ofNat_field]
  rfl

theorem extent_readsFrom (role : Byte) (through : BitVec 24) (runs : List WireRun) (few : runs.length ≤ 6) :
    ReadsFrom (Instr.extent t station clip role through runs) t station 0x24
      (bytesOf 4 clip.toNat ++ bytesOf 1 role.toNat ++ bytesOf 3 through.toNat ++ runs.flatMap wireRunBytes) := by
  have front : (bytesOf 4 clip.toNat ++ bytesOf 1 role.toNat ++ bytesOf 3 through.toNat).length = 8 := by
    simp only [List.length_append, length_bytesOf]
  have whole : (bytesOf 4 clip.toNat ++ bytesOf 1 role.toNat ++ bytesOf 3 through.toNat ++ runs.flatMap wireRunBytes).length =
      8 + 7 * runs.length := by
    rw [List.length_append, front, length_flatMap_wireRunBytes]
  have allowed : (bytesOf 4 clip.toNat ++ bytesOf 1 role.toNat ++ bytesOf 3 through.toNat ++ runs.flatMap wireRunBytes).length ∈
      allowedLengths 0x24 := by
    rw [whole]
    interval_cases runs.length <;> decide
  have count : (8 + 7 * runs.length - 8) / 7 = runs.length := by omega
  have read := readRuns_append runs (bytesOf 4 clip.toNat ++ bytesOf 1 role.toNat ++ bytesOf 3 through.toNat)
  rw [front] at read
  refine readsFrom_of (kind := 0x24) (order := []) allowed ?_
  rw [commandOf_of_allowed allowed, whole, count, read]
  simp only [List.append_assoc]
  simp (disch := decide) only [field_skip]
  simp only [Nat.reduceSub, Nat.sub_self]
  simp (disch := rfl) only [ofNat_field_append]
  rfl

end

/-- Every well-formed notice is read from its own body. -/
theorem readsFrom_of_noticeOf {i : Instr} {t : Time} {station : Station} {kind : Byte} {body : List Byte} (wf : i.wf = true)
    (time : i.time? = some t) (notice : noticeOf i = some (station, kind, body)) : ReadsFrom i t station kind body := by
  cases i <;> cases time <;> cases notice
  case record => exact record_readsFrom ..
  case stop => exact stop_readsFrom _ _ _ _ (of_decide_eq_true wf)
  case immediateStop => exact immediateStop_readsFrom ..
  case abort => exact abort_readsFrom ..
  case queryBinding => exact queryBinding_readsFrom _ _ _ _ (of_decide_eq_true wf)
  case queryNode => exact queryNode_readsFrom ..
  case restart => exact restart_readsFrom ..
  case take => exact take_readsFrom ..
  case extent => exact extent_readsFrom _ _ _ _ _ _ (of_decide_eq_true wf)
  case done => exact done_readsFrom ..

/-- Settles O58: the frame is heard as its own station, kind and body, and the body is read field by field, each value written
in the whole bytes of its width. -/
theorem noticesRoundTrip : Obligations.NoticesRoundTrip := by
  intro i t station kind body wf time notice
  obtain ⟨allowed, read⟩ := readsFrom_of_noticeOf wf time notice
  exact ⟨hear_wireFrame (length_le_of_allowed allowed) allowed, read⟩

end Sys2Proof.Machine
end

section
/-! Where a piece routed to a binding goes (R3, R12, R17, R44, R45, R91). -/

namespace Sys2Proof.Machine

variable {s : State} {b : BindingNo}

/-! ### The arrival (R44, R91) -/

/-- A binding with an arrival noted, but for the grade. -/
def Binding.arrived (r : Binding) (now : Time) : Binding :=
  { r with asm := { r.asm with lastArrival := some now }, acct := { r.acct with silent := false } }

theorem State.noteArrival_of_sound (s : State) (b : BindingNo) (h : (s.binding b).acct.silent = false) :
    s.noteArrival b = s.updAsm b (fun a => { a with lastArrival := some s.now }) :=
  if_neg (by simp [h])

theorem State.recordings_noteArrival (s : State) (b : BindingNo) :
    (s.noteArrival b).recordings = (s.updBinding b (fun r => r.arrived s.now)).recordings := by
  cases silent : (s.binding b).acct.silent with
  | false =>
    rw [s.noteArrival_of_sound b silent]
    refine congrArg State.recordings (State.updBinding_congr ?_)
    simp only [Binding.arrived, ← silent]
  | true =>
    refine (congrArg State.recordings (if_pos silent)).trans ?_
    rw [State.recordings_recomputeGrade, State.updAcct, State.updAsm, State.updBinding_updBinding]
    rfl

theorem State.noteArrival_state (s : State) (b : BindingNo) : ((s.noteArrival b).binding b).state = (s.binding b).state := by
  rw [State.state_of_recordings (s.recordings_noteArrival b)]; simp [Binding.arrived]

theorem State.noteArrival_terms (s : State) (b : BindingNo) : ((s.noteArrival b).binding b).terms = (s.binding b).terms := by
  rw [State.terms_of_recordings (s.recordings_noteArrival b)]; simp [Binding.arrived]

theorem State.noteArrival_asm (s : State) (b : BindingNo) :
    ((s.noteArrival b).binding b).asm = { (s.binding b).asm with lastArrival := some s.now } := by
  rw [State.asm_of_recordings (s.recordings_noteArrival b)]; simp [Binding.arrived]

theorem State.noteArrival_silent (s : State) (b : BindingNo) : ((s.noteArrival b).binding b).acct.silent = false := by
  rw [State.acct_of_recordings (s.recordings_noteArrival b)]; simp [Binding.arrived]

/-! ### A piece in its state (R12, R17, R45) -/

theorem Binding.baseDelta_of_base {r : Binding} {n : FrameCount} (h : r.asm.base = some n) : r.baseDelta = r.deltaOf n := by
  rw [Binding.baseDelta, h]; rfl

section
variable (p : Piece)

theorem State.armedPiece_early (active : (s.binding b).state.active = true) (early : 2 ^ 31 ≤ (s.binding b).deltaOf p.count) :
    s.armedPiece b p = s.updBinding b (fun q => q.counting (fun c => { c with early := oneMore c.early })) :=
  (if_pos early).trans (s.count_of_active active .early 1)

theorem State.recordingPiece_early (active : (s.binding b).state.active = true)
    (early : 2 ^ 31 ≤ (s.binding b).deltaOf p.count) :
    s.recordingPiece b p = s.updBinding b (fun q => q.counting (fun c => { c with early := oneMore c.early })) :=
  (if_pos early).trans (s.count_of_active active .early 1)

theorem State.count_late (active : (s.binding b).state.active = true) :
    s.count b .late = s.updBinding b (fun q => q.counting (fun c => { c with late := oneMore c.late })) :=
  s.count_of_active active .late 1

theorem State.count_afterEnd (active : (s.binding b).state.active = true) :
    s.count b .afterEnd = s.updBinding b (fun q => q.counting (fun c => { c with afterEnd := oneMore c.afterEnd })) :=
  s.count_of_active active .afterEnd 1

variable {n : FrameCount} (base : (s.binding b).asm.base = some n)
include base

theorem State.recordingPiece_below (timely : (s.binding b).deltaOf p.count < 2 ^ 31)
    (below : (s.binding b).deltaOf p.count < (s.binding b).deltaOf n) : s.recordingPiece b p = s.count b .late := by
  rw [← Binding.baseDelta_of_base base] at below
  exact (if_neg (Nat.not_le.mpr timely)).trans (if_pos below)

theorem State.recordingPiece_within {i : Nat} (slot : i < 8) (timely : (s.binding b).deltaOf p.count < 2 ^ 31)
    (place : (s.binding b).deltaOf p.count = (s.binding b).deltaOf n + i) : s.recordingPiece b p = s.pieceInSlot b i p := by
  rw [← Binding.baseDelta_of_base base] at place
  have above : ¬ (s.binding b).deltaOf p.count < (s.binding b).baseDelta := by omega
  have within : (s.binding b).deltaOf p.count < (s.binding b).baseDelta + 8 := by omega
  have index : (s.binding b).deltaOf p.count - (s.binding b).baseDelta = i := by omega
  refine (if_neg (Nat.not_le.mpr timely)).trans ((if_neg above).trans ((if_pos within).trans ?_))
  exact congrArg (fun j => s.pieceInSlot b j p) index

theorem State.finishingPiece_within {i : Nat} (place : (s.binding b).deltaOf p.count = (s.binding b).deltaOf n + i) :
    s.finishingPiece b p =
      (match s.slot? b i with
      | some (.filling index deadline) => s.fillingPiece b i index deadline p
      | some (.skipped _ _) => s
      | _ => s.count b .afterEnd) := by
  rw [← Binding.baseDelta_of_base base] at place
  have index : delta (s.binding b).terms.anchor p.count - (s.binding b).baseDelta = i := by
    have : delta (s.binding b).terms.anchor p.count = (s.binding b).baseDelta + i := place
    omega
  have inside : (s.binding b).asm.base.isSome ∧ (s.binding b).baseDelta ≤ delta (s.binding b).terms.anchor p.count := by
    refine ⟨by simp [base], ?_⟩
    have : delta (s.binding b).terms.anchor p.count = (s.binding b).baseDelta + i := place
    omega
  refine (if_pos inside).trans ?_
  rw [index] <;> rfl

theorem State.finishingPiece_below (below : (s.binding b).deltaOf p.count < (s.binding b).deltaOf n) :
    s.finishingPiece b p = s.count b .afterEnd := by
  rw [← Binding.baseDelta_of_base base] at below
  exact if_neg (fun inside => Nat.not_lt.mpr inside.2 below)

omit base in
theorem State.finishingPiece_of_no_base (none : (s.binding b).asm.base = none) :
    s.finishingPiece b p = s.count b .afterEnd := if_neg (by simp [none])

end

/-- Settles O9: the arrival leaves the state, the terms and the window, so that each test of the piece reads what the binding
had. -/
theorem pieceIsRouted : Obligations.PieceIsRouted := by
  intro b p s v r n hr hv
  subst hr hv
  have state := s.noteArrival_state b
  have terms := s.noteArrival_terms b
  have asm := s.noteArrival_asm b
  have deltas : ∀ m, ((s.noteArrival b).binding b).deltaOf m = (s.binding b).deltaOf m := by
    intro m; unfold Binding.deltaOf; rw [terms]
  have base : ∀ m, (s.binding b).asm.base = m → ((s.noteArrival b).binding b).asm.base = m := by
    intro m h; rw [asm]; exact h
  have slot : ∀ i, (s.noteArrival b).slot? b i = (s.binding b).asm.slots[i]? := by
    intro i; unfold State.slot?; rw [asm]
  have active : (s.binding b).state.active = true → ((s.noteArrival b).binding b).state.active = true := by
    intro h; rw [state]; exact h
  refine ⟨?_, ?_, ?_, ?_, ?_, ?_⟩
  · rintro (idle | draining)
    · unfold State.routePiece; rw [idle]
    · unfold State.routePiece; rw [draining]
  · exact fun _ => ⟨asm, s.noteArrival_silent b, s.noteArrival_of_sound b⟩
  · intro armed
    have route : s.routePiece b p = (s.noteArrival b).armedPiece b p := by unfold State.routePiece; rw [armed]
    have here := active (by rw [armed]; rfl)
    refine ⟨fun early => ?_, fun timely => ?_⟩
    · rw [route, State.armedPiece_early p here (by rw [deltas]; exact early)]
    · rw [route, ← terms]
      exact if_neg (Nat.not_le.mpr (by rw [← deltas] at timely; exact timely))
  · intro recording window
    have route : s.routePiece b p = (s.noteArrival b).recordingPiece b p := by unfold State.routePiece; rw [recording]
    have here := active (by rw [recording]; rfl)
    rw [route]
    refine ⟨fun early => ?_, fun timely below => ?_, fun i small timely place => ?_⟩
    · exact State.recordingPiece_early p here (by rw [deltas]; exact early)
    · rw [← State.count_late here]
      exact State.recordingPiece_below p (base _ window) (by rwa [deltas]) (by rwa [deltas, deltas])
    · have within := State.recordingPiece_within p (base _ window) small (by rwa [deltas]) (by rwa [deltas, deltas])
      rw [within, ← State.count_late here]
      unfold State.pieceInSlot
      rw [slot]
      cases (s.binding b).asm.slots[i]? with
      | none => trivial
      | some x => cases x <;> rfl
  · intro finishing none
    have route : s.routePiece b p = (s.noteArrival b).finishingPiece b p := by unfold State.routePiece; rw [finishing]
    rw [route, ← State.count_afterEnd (active (by rw [finishing]; rfl))]
    exact State.finishingPiece_of_no_base p (base _ none)
  · intro finishing window eight
    have route : s.routePiece b p = (s.noteArrival b).finishingPiece b p := by unfold State.routePiece; rw [finishing]
    rw [route, ← State.count_afterEnd (active (by rw [finishing]; rfl))]
    refine ⟨fun i small place => ?_, fun outside => ?_⟩
    · rw [State.finishingPiece_within p (base _ window) (by rwa [deltas, deltas]), slot]
      cases (s.binding b).asm.slots[i]? with
      | none => rfl
      | some x => cases x <;> rfl
    · rcases outside with below | above
      · exact State.finishingPiece_below p (base _ window) (by rwa [deltas, deltas])
      · obtain ⟨i, place⟩ : ∃ i, (s.binding b).deltaOf p.count = (s.binding b).deltaOf n + i := Nat.exists_eq_add_of_le (by omega)
        rw [State.finishingPiece_within p (base _ window) (by rwa [deltas, deltas]), slot, List.getElem?_eq_none (by omega)]

end Sys2Proof.Machine
end

section
/-! A piece of an open frame (R51, R54, R66). -/

namespace Sys2Proof.Machine

variable {s : State} {b : BindingNo}

theorem insertCell_sorted {i : Nat} (payload : List Byte) {l : List (Nat × List Byte)}
    (sorted : l.Pairwise (fun x y => x.1 < y.1)) (fresh : ∀ x ∈ l, x.1 ≠ i) :
    (insertCell i payload l).Pairwise (fun x y => x.1 < y.1) := by
  induction l with
  | nil => simp [insertCell]
  | cons x xs ih =>
    obtain ⟨above, rest⟩ := List.pairwise_cons.mp sorted
    unfold insertCell
    split
    · next below =>
      refine List.pairwise_cons.mpr ⟨fun y hy => ?_, sorted⟩
      obtain rfl | later := List.mem_cons.mp hy
      · exact below
      · exact below.trans (above y later)
    · next not_below =>
      have apart : x.1 ≠ i := fresh x List.mem_cons_self
      refine List.pairwise_cons.mpr ⟨fun y hy => ?_, ih rest fun y hy => fresh y (List.mem_cons_of_mem x hy)⟩
      obtain rfl | later := List.mem_cons.mp ((insertCell_perm i payload xs).mem_iff.mp hy)
      · show x.1 < i
        omega
      · exact above y later

theorem length_insertCell (i : Nat) (payload : List Byte) (l : List (Nat × List Byte)) :
    (insertCell i payload l).length = l.length + 1 := (insertCell_perm i payload l).length_eq

/-- A state with a piece placed in the record `f` of its frame, one cell taken and the piece counted. -/
def State.withPiece (s : State) (b : BindingNo) (f : FrameRecord) (p : Piece) : State :=
  { s with
    freeCells := s.freeCells - 1
    frames := s.frames.map (fun (x : FrameRecord) =>
      if x.index = f.index then f.placed (s.binding b).terms.audio p else x) }.updBinding b
    (fun q => q.counting (fun c => { c with pieces := oneMore c.pieces }))

theorem State.placeCell_eq (active : (s.binding b).state.active = true) (i : Nat) (f : FrameRecord) (p : Piece) :
    s.placeCell b i f p =
      (if f.cells.length + 1 = f.pieces then (s.withPiece b f p).completeFrame b i f.index else s.withPiece b f p).pressureTest
        b := by
  have counted : ({ s with freeCells := s.freeCells - 1 }.updFrame f.index
      (fun _ => f.placed (s.binding b).terms.audio p)).count b .pieces = s.withPiece b f p :=
    State.count_of_active (by exact active) .pieces 1
  have full : (f.placed (s.binding b).terms.audio p).cells.length = f.cells.length + 1 := length_insertCell ..
  unfold State.placeCell
  dsimp only
  rw [counted, full]
  rfl

theorem State.abandonFrame_eq {index : Nat} {f : FrameRecord} (here : s.frame? index = some f)
    (active : (s.binding b).state.active = true) (i : Nat) (d : Time) :
    s.abandonFrame b i index d = (s.freed f).updBinding b (fun q =>
      { q with
        asm := { q.asm with slots := q.asm.slots.set i (.skipped .room d) }
        counters := { q.counters with roomSkips := oneMore q.counters.roomSkips } }) := by
  unfold State.abandonFrame
  rw [State.freeFrame_of_some here, State.setSlot, State.updAsm, State.count_of_active, State.updBinding_updBinding]
  · rfl
  · rw [State.binding_updBinding, if_pos rfl]
    exact active

section
variable {i index : Nat} {d : Time} {p : Piece} {f : FrameRecord} (here : s.frame? index = some f)
include here

theorem State.fillingPiece_inconsistent (apart : f.pieces ≠ p.pieces.toNat ∨ f.base ≠ p.base.toNat ∨ f.audio ≠ p.audio.toNat) :
    s.fillingPiece b i index d p = s.count b .inconsistent := by
  unfold State.fillingPiece
  rw [here]
  exact if_pos apart

variable (pieces : f.pieces = p.pieces.toNat) (base : f.base = p.base.toNat) (audio : f.audio = p.audio.toNat)
include pieces base audio

theorem State.fillingPiece_consistent :
    s.fillingPiece b i index d p =
      (if f.cells.any (fun c => c.1 = p.index.toNat) then s.count b .duplicates
      else if s.freeCells = 0 then s.abandonFrame b i index d
      else s.placeCell b i f p) := by
  unfold State.fillingPiece
  rw [here]
  exact if_neg (by simp [pieces, base, audio])

theorem State.fillingPiece_duplicate (present : p.index.toNat ∈ f.cells.map Prod.fst) :
    s.fillingPiece b i index d p = s.count b .duplicates := by
  rw [State.fillingPiece_consistent here pieces base audio]
  exact if_pos (by simpa using present)

theorem State.fillingPiece_fresh (absent : p.index.toNat ∉ f.cells.map Prod.fst) :
    s.fillingPiece b i index d p =
      (if s.freeCells = 0 then s.abandonFrame b i index d else s.placeCell b i f p) := by
  rw [State.fillingPiece_consistent here pieces base audio]
  exact if_neg (by simpa using absent)

end

/-- Settles O12: the tests of R51 and R66 in their order. -/
theorem pieceOfOpenFrame : Obligations.PieceOfOpenFrame := by
  intro b i index d p s r f hr active here
  subst hr
  have named : f.index = index := FrameRecord.index_of_frame? here
  refine ⟨fun apart => ?_, fun pieces base audio => ⟨fun present => ?_, fun absent => ⟨fun full => ?_, fun room => ?_⟩⟩⟩
  · rw [State.fillingPiece_inconsistent here apart]
    exact s.count_of_active active .inconsistent 1
  · rw [State.fillingPiece_duplicate here pieces base audio present]
    exact s.count_of_active active .duplicates 1
  · rw [State.fillingPiece_fresh here pieces base audio absent, if_pos full, State.abandonFrame_eq here active, State.freed,
      full, Nat.zero_add, named]
  · rw [State.fillingPiece_fresh here pieces base audio absent, if_neg room, State.placeCell_eq active]
    refine ⟨insertCell p.index.toNat p.payload f.cells, f.placed (s.binding b).terms.audio p, s.withPiece b f p,
      insertCell_perm .., fun sorted => insertCell_sorted _ sorted ?_, ?_, ?_, ?_⟩
    · intro x hx same
      exact absent (same ▸ List.mem_map_of_mem hx)
    · simp [FrameRecord.placed, isAudio]
    · rw [State.withPiece, named]
    · rw [named]

end Sys2Proof.Machine
end

section
/-! Gaps, insertions and reports (R56, R80, R107, R120 to R122). -/

namespace Sys2Proof.Machine

variable {s : State} {b : BindingNo}

/-! ### Ranges of one event (R56, R80) -/

theorem joinRanges_singleton (r : Nat × Nat) : joinRanges [r] = [r] := rfl

/-- The first joined range starts where the first range does. -/
theorem joinRanges_cons_start (y z : Nat) (rest : List (Nat × Nat)) :
    ∃ w l, joinRanges ((y, z) :: rest) = (y, w) :: l ∧ ∀ x, joinRanges ((x, z) :: rest) = (x, w) :: l := by
  unfold joinRanges
  cases joinRanges rest with
  | nil => exact ⟨z, [], rfl, fun _ => rfl⟩
  | cons q qs =>
    by_cases h : z = q.1
    · exact ⟨q.2, qs, by simp [h], fun x => by simp [h]⟩
    · exact ⟨z, q :: qs, by simp [h], fun x => by simp [h]⟩

theorem joinRanges_touch (x y z : Nat) (rest : List (Nat × Nat)) :
    joinRanges ((x, y) :: (y, z) :: rest) = joinRanges ((x, z) :: rest) := by
  obtain ⟨w, l, first, others⟩ := joinRanges_cons_start y z rest
  rw [joinRanges, first, others x]
  exact if_pos rfl

theorem joinRanges_apart {x y y' : Nat} (h : y ≠ y') (z : Nat) (rest : List (Nat × Nat)) :
    joinRanges ((x, y) :: (y', z) :: rest) = (x, y) :: joinRanges ((y', z) :: rest) := by
  obtain ⟨w, l, first, -⟩ := joinRanges_cons_start y' z rest
  rw [joinRanges, first]
  exact if_neg h

theorem State.ownGap_of_le {lo hi : Nat} (h : hi ≤ lo) : s.ownGap b lo hi = s := if_neg (Nat.not_lt.mpr h)

/-- A range of deltas that starts behind the last delta owns no position (R70, R80). -/
theorem State.ownGap_ownedRun (t : Terms) (e x y : Nat) :
    s.ownGap b (ownedRun t e x y).1 (ownedRun t e x y).2 =
      s.ownGap b (min (startOf t (min x (2 ^ 31))) e) (min (startOf t (min y (2 ^ 31))) e) := by
  unfold ownedRun
  split
  · next early => rw [min_eq_left (show x ≤ 2 ^ 31 from early)]; rfl
  · next late =>
    rw [min_eq_right (show 2 ^ 31 ≤ x from Nat.le_of_lt (Nat.not_le.mp late)), State.ownGap_of_le (Nat.le_refl 0),
      State.ownGap_of_le]
    exact min_le_min_right e (startOf_mono t (min_le_right _ _))

theorem State.handGaps_single (x y : Nat) :
    s.handGaps b [(x, y)] = s.ownGap b (min (startOf (s.binding b).terms (min x (2 ^ 31))) (s.binding b).effEnd)
      (min (startOf (s.binding b).terms (min y (2 ^ 31))) (s.binding b).effEnd) :=
  State.ownGap_ownedRun (s.binding b).terms (s.binding b).effEnd x y

/-! ### Insertion (R107, R121) -/

theorem insertInto_mapOrdered {m : List Extent} (h : mapOrdered m) (e : Nat) (k : ExtentKind) (lo hi : Nat) :
    mapOrdered (insertInto e k lo hi m) := by
  unfold insertInto
  split
  · have painted := paint_orderedFrom k (a := lo) (b := min hi e) (orderedFrom_zero_of_mapOrdered h) (Nat.zero_le lo)
    exact mapOrdered_drop (mergeExtents_mapOrdered painted) _
  · exact h

theorem ExtentKind.decides_iff (k : ExtentKind) : k.decides = true ↔ k ≠ .primaryGap := by
  cases k <;> simp [ExtentKind.decides]

/-- The reach over the positions of the kinds that decide, up to E, is where the own through goes (R121). -/
theorem throughTo_reachOf {m : List Extent} (h : mapOrdered m) {e old : Nat} (le : old ≤ e) :
    throughTo m e old (min e (reachOf ExtentKind.decides old m)) := by
  have reach := le_reachOf ExtentKind.decides m old
  refine ⟨le_min le reach, min_le_left _ _, fun p above below => ?_, ?_⟩
  · obtain ⟨k, kind, decides⟩ := reachOf_passes ExtentKind.decides m h old p above (lt_of_lt_of_le below (min_le_right _ _))
    rw [kind]
    exact ⟨by simp, by simpa using (ExtentKind.decides_iff k).mp decides⟩
  · by_cases far : e ≤ reachOf ExtentKind.decides old m
    · exact .inl (min_eq_left far)
    · right
      rw [min_eq_right (Nat.le_of_lt (Nat.not_le.mp far))]
      cases kind : kindAt m (reachOf ExtentKind.decides old m) with
      | none => exact .inl rfl
      | some k =>
        have stops := reachOf_stops ExtentKind.decides m h old k kind
        exact .inr (congrArg some (by_contra fun other => by simp [(ExtentKind.decides_iff k).mpr other] at stops))

theorem State.insertExtent_of_le {k : ExtentKind} {lo hi : Nat} (h : min hi (s.binding b).effEnd ≤ lo) :
    s.insertExtent b k lo hi = s := by
  unfold State.insertExtent
  refine State.updBinding_of_fixed ?_
  simp only [insertInto, if_neg (Nat.not_lt.mpr h)]

theorem State.insertExtent_of_lt {k : ExtentKind} {lo hi : Nat} (h : lo < min hi (s.binding b).effEnd) :
    s.insertExtent b k lo hi = s.updBinding b (fun q => { q with coord := { q.coord with
      map := insertInto (s.binding b).effEnd k lo hi (s.binding b).coord.map
      ownThrough := min (s.binding b).effEnd (reachOf ExtentKind.decides (s.binding b).coord.ownThrough
        (insertInto (s.binding b).effEnd k lo hi (s.binding b).coord.map)) } }) := by
  unfold State.insertExtent
  refine State.updBinding_congr ?_
  simp only [if_pos h]

/-! ### Reports (R122) -/

theorem enterReport_merge {pre : List Run} {l x : Run} (kind : l.kind = x.kind) (touch : x.start = l.stop ∨ x.stop = l.start) :
    enterReport (pre ++ [l]) x = (pre ++ [⟨min l.start x.start, max l.stop x.stop, x.kind⟩], 0) := by
  simp [enterReport, kind, touch]

theorem enterReport_join {buffer : List Run} {x : Run}
    (apart : ∀ pre l, buffer = pre ++ [l] → ¬ (l.kind = x.kind ∧ (x.start = l.stop ∨ x.stop = l.start))) :
    enterReport buffer x = if 12 ≤ buffer.length then (buffer.drop 1 ++ [x], 1) else (buffer ++ [x], 0) := by
  rcases List.eq_nil_or_concat buffer with rfl | ⟨pre, l, rfl⟩
  · rfl
  · rw [List.concat_eq_append] at apart ⊢
    unfold enterReport
    rw [List.getLast?_append_of_ne_nil _ (by simp)]
    exact if_neg (apart pre l rfl)

theorem State.report_eq_of_none {x : Run} {buffer : List Run} (few : s.counters.reportsLost ≤ 65535)
    (entered : enterReport (s.binding b).coord.report x = (buffer, 0)) :
    s.report b x = s.updBinding b (fun q => { q with coord := { q.coord with report := buffer } }) := by
  have kept : bump s.counters.reportsLost 0 = s.counters.reportsLost := min_eq_right few
  unfold State.report
  rw [entered]
  refine congrArg (fun n => { s.updBinding b (fun q => { q with coord := { q.coord with report := buffer } }) with
    counters := { s.counters with reportsLost := n } }) kept

theorem State.report_eq_of_lost {x : Run} {buffer : List Run}
    (entered : enterReport (s.binding b).coord.report x = (buffer, 1)) :
    s.report b x = { s with
      counters := { s.counters with reportsLost := oneMore s.counters.reportsLost } }.updBinding b (fun q =>
        { q with coord := { q.coord with report := buffer } }) := by
  unfold State.report
  rw [entered]
  rfl

/-- Settles O15, a clause for each of the operations that a gap passes through. -/
theorem gapRuns : Obligations.GapRuns := by
  intro b s r hr
  subst hr
  refine ⟨rfl, State.handGaps_single, fun x y z rest => ?_, fun x y y' z rest apart => ?_, fun lo hi _ => ⟨?_, ?_, ?_⟩,
    fun k lo hi ordered within => ⟨?_, ?_⟩, fun x few => ⟨?_, fun apart => ⟨?_, ?_⟩⟩⟩
  · unfold State.handGaps
    rw [joinRanges_touch]
  · unfold State.handGaps
    rw [joinRanges_apart apart]
    rfl
  · exact State.ownGap_of_le
  · intro nonempty shadow
    exact (if_pos nonempty).trans (if_neg (by simpa [State.isPrimary] using shadow))
  · intro nonempty primary
    exact (if_pos nonempty).trans (if_pos (by simpa [State.isPrimary] using primary))
  · exact State.insertExtent_of_le
  · exact fun nonempty => ⟨_, throughTo_reachOf (insertInto_mapOrdered ordered _ k lo hi) within,
      State.insertExtent_of_lt nonempty⟩
  · intro pre l buffer kind touch
    exact State.report_eq_of_none few (buffer ▸ enterReport_merge kind touch)
  · exact fun room => State.report_eq_of_none few ((enterReport_join apart).trans (if_neg (Nat.not_le.mpr room)))
  · exact fun full => State.report_eq_of_lost ((enterReport_join apart).trans (if_pos full))

end Sys2Proof.Machine
end

section
/-! What the hand-over of frames and jobs leaves of a binding record, and that coordination gives cells and records back but
never takes any (chapters 6 and 7). -/

namespace Sys2Proof.Machine

/-! ### What telling leaves -/

/-- What the failure of a job, an own gap and the release of a frame leave of a record: all but its map, reports and own
through, its undecided frames and the counters of writes, yields, failed jobs and holes. -/
def Binding.told (r : Binding) : Binding :=
  { r with
    coord := { r.coord with map := [], report := [], ownThrough := 0 }
    counters := { r.counters with liveWrites := 0, fills := 0, yields := 0, failedJobs := 0, browseHoles := 0 }
    undecided := [] }

/-- The records of a state but for what telling moves. -/
def State.told (s : State) (b : BindingNo) : Binding := (s.binding b).told

section Reading

variable {s u : State} (h : u.told = s.told) (b : BindingNo)
include h

theorem State.state_of_told : (u.binding b).state = (s.binding b).state := (congrArg Binding.state (congrFun h b) :)

theorem State.asm_of_told : (u.binding b).asm = (s.binding b).asm := (congrArg Binding.asm (congrFun h b) :)

theorem State.acct_of_told : (u.binding b).acct = (s.binding b).acct := (congrArg Binding.acct (congrFun h b) :)

theorem State.held_of_told : (u.binding b).coord.held = (s.binding b).coord.held :=
  (congrArg (fun r => r.coord.held) (congrFun h b) :)

theorem State.role_of_told : (u.binding b).coord.role = (s.binding b).coord.role :=
  (congrArg (fun r => r.coord.role) (congrFun h b) :)

theorem State.primary_of_told : (u.binding b).coord.primary = (s.binding b).coord.primary :=
  (congrArg (fun r => r.coord.primary) (congrFun h b) :)

end Reading

variable (s : State) (b : BindingNo)

theorem State.told_updBinding {f : Binding → Binding} (h : (f (s.binding b)).told = (s.binding b).told) :
    (s.updBinding b f).told = s.told := by
  funext x
  unfold State.told
  rw [State.binding_updBinding]
  split
  · next here => rw [here, h]
  · rfl

theorem State.told_of_bindings {s u : State} (h : u.bindings = s.bindings) : u.told = s.told := by
  funext b
  unfold State.told State.binding
  rw [h]

theorem State.told_count {c : BindingCounter} (h : c.ofCoordination) (k : Nat) : (s.count b c k).told = s.told := by
  unfold State.count
  split
  · refine s.told_updBinding b ?_
    rcases h with rfl | rfl | rfl | rfl | rfl <;> rfl
  · rfl

theorem State.told_foldl {α : Type} {f : State → α → State} (h : ∀ s x, (f s x).told = s.told) (l : List α) :
    (l.foldl f s).told = s.told := by
  induction l generalizing s with
  | nil => rfl
  | cons x xs ih => exact (ih _).trans (h s x)

@[simp] theorem State.told_updFrame (i : Nat) (g : FrameRecord → FrameRecord) : (s.updFrame i g).told = s.told := rfl

@[simp] theorem State.told_updStore (f : Store → Store) : (s.updStore f).told = s.told := rfl

@[simp] theorem State.told_releaseFrame (i : Nat) : (s.releaseFrame i).told = s.told :=
  State.told_of_bindings (s.releaseFrame_bindings i)

@[simp] theorem State.told_giveBack (i : Nat) : (s.giveBack i).told = s.told :=
  State.told_of_bindings (s.giveBack_bindings i)

@[simp] theorem State.told_offerTake : (s.offerTake b).told = s.told := State.told_of_bindings (s.offerTake_bindings b)

@[simp] theorem State.told_report (r : Run) : (s.report b r).told = s.told :=
  s.told_updBinding b (f := fun q => { q with coord := { q.coord with report := (enterReport (s.binding b).coord.report r).1 } }) rfl

@[simp] theorem State.told_insertExtent (k : ExtentKind) (lo hi : Nat) : (s.insertExtent b k lo hi).told = s.told :=
  s.told_updBinding b rfl

@[simp] theorem State.told_ownGap (lo hi : Nat) : (s.ownGap b lo hi).told = s.told := by
  unfold State.ownGap
  dsimp only
  split
  · split <;> simp
  · rfl

@[simp] theorem State.told_yieldFrame (i : Nat) : (s.yieldFrame b i).told = s.told :=
  (State.told_count _ b (by simp [BindingCounter.ofCoordination]) 1).trans (s.told_releaseFrame i)

@[simp] theorem State.told_tellFailure (j : Job) : (s.tellFailure j).told = s.told := by
  unfold State.tellFailure
  split
  · rw [State.told_giveBack, State.told_count _ _ (by simp [BindingCounter.ofCoordination]), State.told_ownGap]
  · rw [State.told_giveBack, State.told_count _ _ (by simp [BindingCounter.ofCoordination])]

@[simp] theorem State.told_handOver (j : Job) : (s.handOver j).told = s.told := by
  unfold State.handOver
  split <;> simp

theorem State.told_writeFrame (i : Nat) (cls : JobClass) {c : BindingCounter} (hc : c.ofCoordination) :
    (s.writeFrame b i cls c).told = s.told := by
  unfold State.writeFrame
  split
  · rfl
  · dsimp only
    split
    · refine (State.told_updBinding _ b rfl).trans ?_
      simp [State.told_count _ b hc]
    · simp [State.told_count _ b hc]

@[simp] theorem State.told_writeLive (i : Nat) : (s.writeLive b i).told = s.told :=
  s.told_writeFrame b i _ (by simp [BindingCounter.ofCoordination])

@[simp] theorem State.told_writeFill (i : Nat) : (s.writeFill b i).told = s.told :=
  s.told_writeFrame b i _ (by simp [BindingCounter.ofCoordination])

/-- The records after a fill, but for what telling moves: the frame has left the list. -/
theorem State.told_fillHeld (h : Held) : (s.fillHeld b h).told = (s.unhold b h.frame).told :=
  State.told_writeFill _ b h.frame

theorem State.told_promote : (s.promote b).told = (s.updCoord b (fun c => { c with held := [] })).told :=
  State.told_foldl _ (fun s (h : Held) => s.told_writeLive b h.frame) _

/-! ### Nothing is taken -/

/-- No cell and no record is taken: cells may come free, and records may leave the table. -/
structure State.Frees (s u : State) : Prop where
  cells : s.freeCells ≤ u.freeCells
  records : (u.frames.map FrameRecord.index).Sublist (s.frames.map FrameRecord.index)

namespace State.Frees

theorem refl (s : State) : s.Frees s := ⟨Nat.le_refl _, List.Sublist.refl _⟩

theorem trans {s u v : State} (h : s.Frees u) (h' : u.Frees v) : s.Frees v :=
  ⟨Nat.le_trans h.cells h'.cells, h'.records.trans h.records⟩

theorem of_eq {s u : State} (frames : u.frames = s.frames) (cells : u.freeCells = s.freeCells) : s.Frees u :=
  ⟨cells.symm.le, frames ▸ List.Sublist.refl _⟩

theorem foldl {α : Type} {f : State → α → State} (h : ∀ (s : State) x, s.Frees (f s x)) (l : List α) (s : State) :
    s.Frees (l.foldl f s) := by
  induction l generalizing s with
  | nil => exact refl s
  | cons x xs ih => exact (h s x).trans (ih _)

theorem length_le {s u : State} (h : s.Frees u) : u.frames.length ≤ s.frames.length := by
  simpa using h.records.length_le

theorem frame?_none {s u : State} (h : s.Frees u) {i : Nat} (gone : s.frame? i = none) : u.frame? i = none := by
  refine List.find?_eq_none.mpr fun x hx same => ?_
  obtain ⟨y, hy, index⟩ := List.mem_map.mp (h.records.subset (List.mem_map_of_mem hx))
  refine List.find?_eq_none.mp gone y hy ?_
  simpa [index] using same

end State.Frees

theorem State.frees_updBinding (f : Binding → Binding) : s.Frees (s.updBinding b f) := .of_eq rfl rfl

theorem State.frees_updFrame (i : Nat) {g : FrameRecord → FrameRecord} (h : ∀ f, (g f).index = f.index) :
    s.Frees (s.updFrame i g) := by
  refine ⟨Nat.le_refl _, ?_⟩
  have same : ∀ f : FrameRecord, (if f.index = i then g f else f).index = f.index := by
    intro f
    split
    · exact h f
    · rfl
  simp only [State.updFrame, List.map_map]
  exact (List.map_congr_left fun f _ => same f).symm ▸ List.Sublist.refl _

theorem State.frees_freeFrame (i : Nat) : s.Frees (s.freeFrame i) := by
  unfold State.freeFrame
  split
  · exact .refl s
  · exact ⟨Nat.le_add_right _ _, List.filter_sublist.map _⟩

theorem State.frees_releaseFrame (i : Nat) : s.Frees (s.releaseFrame i) := by
  unfold State.releaseFrame
  split
  · exact .refl s
  · split
    · exact s.frees_freeFrame i
    · exact s.frees_updFrame i fun _ => rfl

theorem State.frees_giveBack (i : Nat) : s.Frees (s.giveBack i) := by
  unfold State.giveBack
  split
  · exact .refl s
  · split
    · exact s.frees_freeFrame i
    · exact s.frees_updFrame i fun _ => rfl

theorem State.frees_count (c : BindingCounter) (k : Nat) : s.Frees (s.count b c k) := by
  unfold State.count
  split
  · exact s.frees_updBinding b _
  · exact .refl s

theorem State.frees_ownGap (lo hi : Nat) : s.Frees (s.ownGap b lo hi) := by
  unfold State.ownGap
  dsimp only
  split
  · split <;> exact .of_eq rfl rfl
  · exact .refl s

theorem State.frees_handGaps (ranges : List (Nat × Nat)) : s.Frees (s.handGaps b ranges) :=
  .foldl (fun s _ => s.frees_ownGap b _ _) _ s

theorem State.frees_tellFailure (j : Job) : s.Frees (s.tellFailure j) := by
  unfold State.tellFailure
  split
  · exact ((s.frees_ownGap _ _ _).trans (State.frees_count _ _ _ _)).trans (State.frees_giveBack _ _)
  · exact (State.frees_count _ _ _ _).trans (State.frees_giveBack _ _)

theorem State.frees_handOver (j : Job) : s.Frees (s.handOver j) := by
  unfold State.handOver
  split
  · exact .of_eq rfl rfl
  · exact s.frees_tellFailure j

theorem State.frees_writeFrame (i : Nat) (cls : JobClass) (c : BindingCounter) : s.Frees (s.writeFrame b i cls c) := by
  unfold State.writeFrame
  split
  · exact .refl s
  · have handed : ∀ (g : FrameRecord → FrameRecord) (j : Job), (∀ f, (g f).index = f.index) →
        s.Frees (((s.updFrame i g).count b c).handOver j) := fun g j h =>
      ((s.frees_updFrame i h).trans (State.frees_count _ b c 1)).trans (State.frees_handOver _ j)
    dsimp only
    split
    · refine State.Frees.trans (handed _ _ ?_) (State.frees_updBinding _ b _)
      exact fun _ => rfl
    · refine handed _ _ ?_
      exact fun _ => rfl

theorem State.frees_fillHeld (h : Held) : s.Frees (s.fillHeld b h) :=
  (s.frees_updBinding b _).trans (State.frees_writeFrame _ b _ _ _)

theorem State.frees_promote : s.Frees (s.promote b) :=
  (s.frees_updBinding b _).trans (.foldl (fun s (h : Held) => s.frees_writeFrame b h.frame _ _) _ _)

theorem State.frees_offer (n : Notice) : s.Frees (s.offer n) := by
  obtain ⟨l, c, h⟩ := s.offer_spec n
  rw [h]
  exact .of_eq rfl rfl

theorem State.frees_offerTake : s.Frees (s.offerTake b) := by
  unfold State.offerTake
  dsimp only
  split
  · split
    · exact .refl s
    · exact s.frees_offer _
  · exact .refl s

/-- A binding whose primary-in-view has become a station, and its TAKE (R104). -/
def State.viewed (s : State) (b : BindingNo) (view : Station) : State :=
  (s.updBinding b (fun q => { q with coord := q.coord.viewing s.opts.station view })).offerTake b

theorem State.changeView_of_other {view : Station} (other : view ≠ s.opts.station) : s.changeView b view = s.viewed b view := by
  unfold State.changeView State.viewed Coordination.viewing
  simp only [if_neg other]
  rfl

theorem State.changeView_of_own : s.changeView b s.opts.station = (s.viewed b s.opts.station).promote b := by
  unfold State.changeView State.viewed Coordination.viewing
  simp only [if_pos]
  rfl

theorem State.frees_changeView (view : Station) : s.Frees (s.changeView b view) := by
  have viewed : s.Frees (s.viewed b view) := (s.frees_updBinding b _).trans (State.frees_offerTake _ b)
  by_cases own : view = s.opts.station
  · subst own
    rw [State.changeView_of_own]
    exact viewed.trans (State.frees_promote _ b)
  · rw [s.changeView_of_other b own]
    exact viewed

theorem State.frees_evaluate : s.Frees (s.evaluate b) := by
  unfold State.evaluate
  split
  · exact s.frees_changeView b _
  · exact .refl s

theorem State.frees_recomputeGrade : s.Frees (s.recomputeGrade b) := by
  unfold State.recomputeGrade
  dsimp only
  split
  · exact .refl s
  · exact ((s.frees_updBinding b _).trans (State.frees_offerTake _ b)).trans (State.frees_evaluate _ b)

theorem State.frees_takeClosure (o : Closure) : s.Frees (s.takeClosure b o) :=
  (s.frees_updBinding b _).trans (State.frees_recomputeGrade _ b)

/-! ### The grade (R92, R93) -/

theorem State.updCoord_acct (f : Coordination → Coordination) (x : BindingNo) :
    ((s.updCoord b f).binding x).acct = (s.binding x).acct := by
  rw [State.updCoord, State.binding_updBinding]
  split
  · next here => rw [here]
  · rfl

theorem State.viewed_acct (view : Station) (x : BindingNo) : ((s.viewed b view).binding x).acct = (s.binding x).acct := by
  unfold State.viewed
  rw [State.acct_of_told (State.told_offerTake _ b)]
  exact s.updCoord_acct b (fun c => c.viewing s.opts.station view) x

theorem State.changeView_acct (view : Station) (x : BindingNo) : ((s.changeView b view).binding x).acct = (s.binding x).acct := by
  by_cases own : view = s.opts.station
  · subst own
    rw [State.changeView_of_own, State.acct_of_told (State.told_promote _ b), State.updCoord_acct, State.viewed_acct]
  · rw [s.changeView_of_other b own, State.viewed_acct]

theorem State.evaluate_acct (x : BindingNo) : ((s.evaluate b).binding x).acct = (s.binding x).acct := by
  unfold State.evaluate
  split
  · exact s.changeView_acct b _ x
  · rfl

/-- A recomputation stores the grade and leaves the rest of the accounting. -/
theorem State.recomputeGrade_acct : ((s.recomputeGrade b).binding b).acct = { (s.binding b).acct with grade := s.gradeOf b } := by
  unfold State.recomputeGrade
  dsimp only
  split
  · next same => rw [same]
  · rw [State.evaluate_acct, State.acct_of_told (State.told_offerTake _ b)]
    simp [State.updAcct]

end Sys2Proof.Machine
end

section
/-! Frames that are sent to be written: one, and all that a promotion finds held (R111, R114, R117). -/

namespace Sys2Proof.Machine

variable {s : State} {b : BindingNo}

theorem essenceJob_eq (cls : JobClass) (f : FrameRecord) (e : Nat) : essenceJob cls b f e = jobFor cls b f e := rfl

/-- A queue that a job has joined is not empty, so that the current value of its class stays (R136). -/
theorem Store.setQueue_live_append (st : Store) (j : Job) :
    st.setQueue .live (st.live ++ [j]) = { st with live := st.live ++ [j] } := by
  simp [Store.setQueue]

theorem Store.setQueue_fill_append (st : Store) (j : Job) :
    st.setQueue .fill (st.fill ++ [j]) = { st with fill := st.fill ++ [j] } := by
  simp [Store.setQueue]

/-! ### One frame (R111, R153) -/

theorem State.writeFrame_eq {i : Nat} {f : FrameRecord} (here : s.frame? i = some f) (active : (s.binding b).state.active = true)
    (cls : JobClass) (c : BindingCounter) :
    s.writeFrame b i cls c =
      (((s.withFrame i (fun x => x.sent (decide ((s.binding b).terms.browseCells ≠ 0)))).updBinding b (fun q =>
        q.counting (fun x => x.raise 1 c))).handOver (jobFor cls b f (s.binding b).effEnd)).updBinding b
        (fun q => { q with undecided :=
          if (s.binding b).terms.browseCells ≠ 0 then q.undecided ++ [i] else q.undecided }) := by
  have counted : ∀ g : FrameRecord → FrameRecord, (s.updFrame i g).count b c =
      (s.withFrame i g).updBinding b (fun q => q.counting (fun x => x.raise 1 c)) :=
    fun g => State.count_of_active (s := s.updFrame i g) (by exact active) c 1
  have effEnd : ∀ g : FrameRecord → FrameRecord,
      (((s.withFrame i g).updBinding b (fun q => q.counting (fun x => x.raise 1 c))).binding b).effEnd = (s.binding b).effEnd := by
    intro g
    rw [State.binding_updBinding, if_pos rfl]
    rfl
  unfold State.writeFrame
  rw [here]
  dsimp only
  rw [counted, effEnd, essenceJob_eq]
  unfold Binding.browseOn FrameRecord.sent
  by_cases on : (s.binding b).terms.browseCells ≠ 0
  · simp only [on, decide_true, if_true, ne_eq, not_false_eq_true]
  · simp only [on, decide_false, if_false, Bool.false_eq_true]
    exact (State.updBinding_of_fixed rfl).symm

/-- A record sent to be written while the link is UP and the queue of its class has room. -/
theorem State.writeFrame_of_room {i : Nat} {f : FrameRecord} (here : s.frame? i = some f)
    (active : (s.binding b).state.active = true) {cls : JobClass} (c : BindingCounter) (up : s.store.link = .up)
    (room : (s.store.queue cls).length < 256) :
    s.writeFrame b i cls c =
      ({ s with store := s.store.setQueue cls (s.store.queue cls ++ [jobFor cls b f (s.binding b).effEnd]) : State }.withFrame i
        (fun x => x.sent (decide ((s.binding b).terms.browseCells ≠ 0)))).updBinding b (fun q =>
        { q with
          counters := q.counters.raise 1 c
          undecided := if (s.binding b).terms.browseCells ≠ 0 then q.undecided ++ [i] else q.undecided }) := by
  rw [State.writeFrame_eq here active, State.handOver_of_room (by exact up) (by exact room)]
  exact State.updBinding_updBinding (s := { s with
    store := s.store.setQueue cls (s.store.queue cls ++ [jobFor cls b f (s.binding b).effEnd]) : State }.withFrame i
      (fun x => x.sent (decide ((s.binding b).terms.browseCells ≠ 0)))) (fun q => q.counting (fun x => x.raise 1 c))
      (fun q => { q with undecided := if (s.binding b).terms.browseCells ≠ 0 then q.undecided ++ [i] else q.undecided })

/-- The frame that a held entry names, filled while the link is UP and FILL has room (R114). -/
theorem State.fillHeld_of_room {h : Held} {f : FrameRecord} (here : s.frame? h.frame = some f)
    (active : (s.binding b).state.active = true) (up : s.store.link = .up) (room : s.store.fill.length < 256) :
    s.fillHeld b h =
      ({ s with store := { s.store with fill := s.store.fill ++ [jobFor .fill b f (s.binding b).effEnd] } : State }.withFrame
        h.frame (fun x => x.sent (decide ((s.binding b).terms.browseCells ≠ 0)))).updBinding b (fun q =>
        { q with
          coord := { q.coord with held := q.coord.held.filter (fun x => x.frame ≠ h.frame) }
          counters := { q.counters with fills := oneMore q.counters.fills }
          undecided := if (s.binding b).terms.browseCells ≠ 0 then q.undecided ++ [h.frame] else q.undecided }) := by
  have unheld : ∀ {α : Type} (g : Binding → α), (∀ q c, g { q with coord := c } = g q) →
      g ((s.unhold b h.frame).binding b) = g (s.binding b) := by
    intro α g same
    rw [State.unhold, State.updCoord, State.binding_updBinding, if_pos rfl, same]
  have written := State.writeFrame_of_room (s := s.unhold b h.frame) (by exact here)
    ((unheld Binding.state fun _ _ => rfl) ▸ active) (cls := .fill) .fills up room
  rw [unheld Binding.effEnd fun _ _ => rfl, unheld Binding.terms fun _ _ => rfl] at written
  have joined := Store.setQueue_fill_append s.store (jobFor .fill b f (s.binding b).effEnd)
  refine (written.trans ?_).trans (State.updBinding_updBinding
    (s := { s with
      store := { s.store with fill := s.store.fill ++ [jobFor .fill b f (s.binding b).effEnd] } : State }.withFrame h.frame
      (fun x => x.sent (decide ((s.binding b).terms.browseCells ≠ 0))))
    (fun q => { q with coord := { q.coord with held := q.coord.held.filter (fun x => x.frame ≠ h.frame) } })
    (fun q =>
      { q with
        counters := q.counters.raise 1 .fills
        undecided := if (s.binding b).terms.browseCells ≠ 0 then q.undecided ++ [h.frame] else q.undecided }))
  rw [← joined]
  rfl

/-- A fill in general: its job is handed over, taken or not. -/
theorem State.fillHeld_eq {h : Held} {f : FrameRecord} (here : s.frame? h.frame = some f)
    (active : (s.binding b).state.active = true) :
    s.fillHeld b h =
      (((s.withFrame h.frame (fun x => x.sent (decide ((s.binding b).terms.browseCells ≠ 0)))).updBinding b (fun q =>
        { q with
          coord := { q.coord with held := q.coord.held.filter (fun x => x.frame ≠ h.frame) }
          counters := { q.counters with fills := oneMore q.counters.fills } })).handOver
        (jobFor .fill b f (s.binding b).effEnd)).updBinding b (fun q =>
          { q with undecided :=
            if (s.binding b).terms.browseCells ≠ 0 then q.undecided ++ [h.frame] else q.undecided }) := by
  have unheld : ∀ {α : Type} (g : Binding → α), (∀ q c, g { q with coord := c } = g q) →
      g ((s.unhold b h.frame).binding b) = g (s.binding b) := by
    intro α g same
    rw [State.unhold, State.updCoord, State.binding_updBinding, if_pos rfl, same]
  have written := State.writeFrame_eq (s := s.unhold b h.frame) (by exact here)
    ((unheld Binding.state fun _ _ => rfl) ▸ active) .fill .fills
  rw [unheld Binding.effEnd fun _ _ => rfl, unheld Binding.terms fun _ _ => rfl] at written
  refine written.trans ?_
  refine congrArg (fun v : State => (v.handOver (jobFor .fill b f (s.binding b).effEnd)).updBinding b (fun q =>
    { q with undecided := if (s.binding b).terms.browseCells ≠ 0 then q.undecided ++ [h.frame] else q.undecided })) ?_
  exact State.updBinding_updBinding
    (s := s.withFrame h.frame (fun x => x.sent (decide ((s.binding b).terms.browseCells ≠ 0))))
    (fun q => { q with coord := { q.coord with held := q.coord.held.filter (fun x => x.frame ≠ h.frame) } })
    (fun q => q.counting (fun x => x.raise 1 .fills))

/-! ### Every held frame (R117) -/

theorem State.frame?_withFrame_of_ne {i j : Nat} (apart : j ≠ i) {g : FrameRecord → FrameRecord}
    (index : ∀ f, (g f).index = f.index) : (s.withFrame i g).frame? j = s.frame? j := by
  unfold State.frame? State.withFrame
  dsimp only
  rw [List.find?_map]
  have same : ∀ f : FrameRecord, ((fun f : FrameRecord => decide (f.index = j)) ∘ fun f => if f.index = i then g f else f) f =
      decide (f.index = j) := by
    intro f
    simp only [Function.comp]
    split
    · rw [index]
    · rfl
  rw [funext same]
  cases found : s.frames.find? (fun f => decide (f.index = j)) with
  | none => rfl
  | some f =>
    have named : f.index = j := by simpa using List.find?_some found
    simp [named, apart]

/-- The records `fs` at the indices `is` sent to LIVE in their order. -/
def State.promoted (s : State) (b : BindingNo) (is : List Nat) (fs : List FrameRecord) : State :=
  ({ s with
    store := { s.store with live := s.store.live ++ fs.map (fun f => jobFor .live b f (s.binding b).effEnd) }
    frames := s.frames.map (fun f =>
      if f.index ∈ is then f.sent (decide ((s.binding b).terms.browseCells ≠ 0)) else f) } : State).updBinding b (fun q =>
    { q with
      counters := { q.counters with liveWrites := min 65535 (q.counters.liveWrites + fs.length) }
      undecided := if (s.binding b).terms.browseCells ≠ 0 then q.undecided ++ is else q.undecided })

theorem State.promoted_binding (is : List Nat) (fs : List FrameRecord) :
    (s.promoted b is fs).binding b = { s.binding b with
      counters := { (s.binding b).counters with liveWrites := min 65535 ((s.binding b).counters.liveWrites + fs.length) }
      undecided := if (s.binding b).terms.browseCells ≠ 0 then (s.binding b).undecided ++ is else (s.binding b).undecided } := by
  unfold State.promoted
  rw [State.binding_updBinding, if_pos rfl]
  rfl

theorem State.promoted_nil (bounded : (s.binding b).counters.liveWrites ≤ 65535) : s.promoted b [] [] = s := by
  have kept : min 65535 ((s.binding b).counters.liveWrites + 0) = (s.binding b).counters.liveWrites := min_eq_right bounded
  have fixed : s.promoted b [] [] = ({ s with
      store := { s.store with live := s.store.live ++ [] }
      frames := s.frames.map (fun f => if f.index ∈ [] then f.sent (decide ((s.binding b).terms.browseCells ≠ 0)) else f) } :
        State) := by
    refine State.updBinding_of_fixed ?_
    simp only [List.append_nil, ite_self, List.length_nil]
    exact congrArg (fun n => { s.binding b with counters := { (s.binding b).counters with liveWrites := n } }) kept
  rw [fixed]
  simp

theorem State.writeLive_eq_promoted {i : Nat} {f : FrameRecord} (here : s.frame? i = some f)
    (active : (s.binding b).state.active = true) (up : s.store.link = .up) (room : s.store.live.length < 256) :
    s.writeLive b i = s.promoted b [i] [f] := by
  have written := State.writeFrame_of_room here active (cls := .live) .liveWrites up room
  have joined := Store.setQueue_live_append s.store (jobFor .live b f (s.binding b).effEnd)
  have frames : s.frames.map (fun x => if x.index ∈ [i] then x.sent (decide ((s.binding b).terms.browseCells ≠ 0)) else x) =
      s.frames.map (fun x => if x.index = i then x.sent (decide ((s.binding b).terms.browseCells ≠ 0)) else x) := by
    simp only [List.mem_singleton]
  unfold State.promoted
  rw [frames, List.map_singleton, ← joined]
  exact written

theorem State.promoted_promoted {i : Nat} {f : FrameRecord} (is : List Nat) (fs : List FrameRecord) (fresh : i ∉ is) :
    (s.promoted b [i] [f]).promoted b is fs = s.promoted b (i :: is) (f :: fs) := by
  have once : (s.promoted b [i] [f]).binding b = { s.binding b with
      counters := { (s.binding b).counters with liveWrites := min 65535 ((s.binding b).counters.liveWrites + 1) }
      undecided := if (s.binding b).terms.browseCells ≠ 0 then (s.binding b).undecided ++ [i] else (s.binding b).undecided } :=
    State.promoted_binding [i] [f]
  have frames : (s.promoted b [i] [f]).frames.map (fun x =>
        if x.index ∈ is then x.sent (decide ((s.binding b).terms.browseCells ≠ 0)) else x) =
      s.frames.map (fun x => if x.index ∈ i :: is then x.sent (decide ((s.binding b).terms.browseCells ≠ 0)) else x) := by
    refine List.map_map.trans (List.map_congr_left fun x _ => ?_)
    by_cases here : x.index = i
    · have left : x.index ∉ is := here ▸ fresh
      simp [here, FrameRecord.sent, fresh]
    · simp [here]
  have jobs : (s.promoted b [i] [f]).store.live ++ fs.map (fun f => jobFor .live b f (s.binding b).effEnd) =
      s.store.live ++ (f :: fs).map (fun f => jobFor .live b f (s.binding b).effEnd) :=
    List.append_assoc _ _ _
  rw [State.promoted, once]
  dsimp only
  rw [frames, jobs]
  refine (State.updBinding_updBinding (s := { s with
    store := { s.store with live := s.store.live ++ (f :: fs).map (fun f => jobFor .live b f (s.binding b).effEnd) }
    frames := s.frames.map (fun x =>
      if x.index ∈ i :: is then x.sent (decide ((s.binding b).terms.browseCells ≠ 0)) else x) }) (fun q =>
    { q with
      counters := { q.counters with liveWrites := min 65535 (q.counters.liveWrites + 1) }
      undecided := if (s.binding b).terms.browseCells ≠ 0 then q.undecided ++ [i] else q.undecided }) (fun q =>
    { q with
      counters := { q.counters with liveWrites := min 65535 (q.counters.liveWrites + fs.length) }
      undecided := if (s.binding b).terms.browseCells ≠ 0 then q.undecided ++ is else q.undecided })).trans ?_
  refine State.updBinding_congr ?_
  have count : min 65535 (min 65535 ((s.binding b).counters.liveWrites + 1) + fs.length) =
      min 65535 ((s.binding b).counters.liveWrites + (f :: fs).length) := by
    rw [List.length_cons]
    omega
  by_cases on : (s.binding b).terms.browseCells ≠ 0
  · simp only [if_pos on, List.append_assoc, List.singleton_append]
    exact congrArg (fun n => { s.binding b with
      counters := { (s.binding b).counters with liveWrites := n }, undecided := (s.binding b).undecided ++ i :: is }) count
  · simp only [if_neg on]
    exact congrArg (fun n => { s.binding b with counters := { (s.binding b).counters with liveWrites := n } }) count

/-- Frames written live one after another while the link is UP and LIVE has room for all of them. -/
theorem State.foldl_writeLive (is : List Nat) (fs : List FrameRecord) (here : is.map s.frame? = fs.map some) (nodup : is.Nodup)
    (active : (s.binding b).state.active = true) (up : s.store.link = .up) (room : s.store.live.length + fs.length ≤ 256)
    (bounded : (s.binding b).counters.liveWrites ≤ 65535) :
    is.foldl (fun s i => s.writeLive b i) s = s.promoted b is fs := by
  induction is generalizing s fs with
  | nil =>
    obtain rfl : fs = [] := by simpa using here.symm
    exact (State.promoted_nil bounded).symm
  | cons i is ih =>
    obtain ⟨f, fs, rfl⟩ : ∃ f rest, fs = f :: rest := by
      cases fs with
      | nil => simp at here
      | cons f rest => exact ⟨f, rest, rfl⟩
    rw [List.map_cons, List.map_cons, List.cons.injEq] at here
    obtain ⟨fresh, nodup⟩ := List.nodup_cons.mp nodup
    rw [List.length_cons] at room
    rw [List.foldl_cons, State.writeLive_eq_promoted here.1 active up (by omega), ← State.promoted_promoted is fs fresh]
    have step : (s.promoted b [i] [f]).binding b = { s.binding b with
        counters := ((s.promoted b [i] [f]).binding b).counters
        undecided := ((s.promoted b [i] [f]).binding b).undecided } := by
      rw [State.promoted_binding]
    refine ih fs ?_ nodup ?_ up ?_ ?_
    · rw [← here.2]
      refine List.map_congr_left fun j hj => ?_
      have apart : j ≠ i := fun same => fresh (same ▸ hj)
      have others := s.frame?_withFrame_of_ne apart (g := fun x => x.sent (decide ((s.binding b).terms.browseCells ≠ 0))) fun _ => rfl
      rw [← others]
      unfold State.promoted State.withFrame
      simp only [List.mem_singleton]
      rfl
    · rw [step]; exact active
    · have one : (s.promoted b [i] [f]).store.live.length = s.store.live.length + 1 := List.length_append ..
      omega
    · rw [State.promoted_binding]
      exact min_le_left _ _

end Sys2Proof.Machine
end

section
/-! Ranking, evaluation and the primary-in-view; takers, silence and the settle deadline (R91, R99 to R104, R117). -/

namespace Sys2Proof.Machine

variable {s : State} {b : BindingNo}

/-! ### Ranking (R99, R103) -/

theorem ranksAhead_iff (a b : Station × Nat) : ranksAhead a b = true ↔ b.2 < a.2 ∨ (a.2 = b.2 ∧ a.1 < b.1) :=
  decide_eq_true_iff

theorem ranksAhead_takers (x y : Taker) : ranksAhead (x.station, x.grade) (y.station, y.grade) = true ↔ x.ahead y :=
  ranksAhead_iff _ _

/-- What is behind nothing of a pair is behind nothing that the other leads. -/
theorem not_ranksAhead_trans {x y z : Station × Nat} (h : ¬ ranksAhead x y = true) (h' : ¬ ranksAhead y z = true) :
    ¬ ranksAhead x z = true := by
  rw [ranksAhead_iff, Fin.lt_def] at *
  omega

theorem not_ranksAhead_of_ranksAhead {x y : Station × Nat} (h : ranksAhead x y = true) : ¬ ranksAhead y x = true := by
  rw [ranksAhead_iff, Fin.lt_def] at *
  omega

theorem eq_of_not_ranksAhead {x y : Station × Nat} (h : ¬ ranksAhead x y = true) (h' : ¬ ranksAhead y x = true) : x = y := by
  rw [ranksAhead_iff, Fin.lt_def] at h h'
  exact Prod.ext (Fin.ext (by omega)) (by omega)

/-- The best of a list leads or equals each of its candidates. -/
theorem bestOf_spec (first : Station × Nat) (others : List (Station × Nat)) :
    bestOf first others ∈ first :: others ∧ ∀ x ∈ first :: others, ¬ ranksAhead x (bestOf first others) = true := by
  induction others generalizing first with
  | nil =>
    refine ⟨List.mem_cons_self, fun x hx => ?_⟩
    obtain rfl : x = first := by simpa using hx
    exact fun ahead => not_ranksAhead_of_ranksAhead ahead ahead
  | cons y ys ih =>
    by_cases ahead : ranksAhead y first = true
    · have step : bestOf first (y :: ys) = bestOf y ys := by simp [bestOf, ahead]
      rw [step]
      obtain ⟨mem, best⟩ := ih y
      refine ⟨List.mem_cons_of_mem _ mem, fun x hx => ?_⟩
      obtain rfl | later := List.mem_cons.mp hx
      · exact not_ranksAhead_trans (not_ranksAhead_of_ranksAhead ahead) (best y List.mem_cons_self)
      · exact best x later
    · have step : bestOf first (y :: ys) = bestOf first ys := by simp [bestOf, ahead]
      rw [step]
      obtain ⟨mem, best⟩ := ih first
      refine ⟨?_, fun x hx => ?_⟩
      · obtain same | later := List.mem_cons.mp mem
        · exact List.mem_cons.mpr (.inl same)
        · exact List.mem_cons_of_mem _ (List.mem_cons_of_mem _ later)
      · obtain rfl | later := List.mem_cons.mp hx
        · exact best x List.mem_cons_self
        · obtain rfl | last := List.mem_cons.mp later
          · exact not_ranksAhead_trans ahead (best first List.mem_cons_self)
          · exact best x (List.mem_cons_of_mem _ last)

/-- The station behind which every candidate ranks is the best one (R103). -/
theorem State.bestStation_eq {best own : Taker} (station : own.station = s.opts.station)
    (grade : own.grade = (s.binding b).acct.grade) (mem : best ∈ own :: (s.binding b).coord.takers)
    (leads : ∀ x ∈ own :: (s.binding b).coord.takers, x.station = best.station ∧ x.grade = best.grade ∨ best.ahead x) :
    s.bestStation b = (best.station, best.grade) := by
  have candidates : (s.opts.station, (s.binding b).acct.grade) :: (s.binding b).coord.takers.map (fun t => (t.station, t.grade)) =
      (own :: (s.binding b).coord.takers).map (fun t => (t.station, t.grade)) := by
    rw [List.map_cons, station, grade]
  obtain ⟨found, first⟩ := bestOf_spec (s.opts.station, (s.binding b).acct.grade)
    ((s.binding b).coord.takers.map (fun t => (t.station, t.grade)))
  rw [candidates] at found first
  obtain ⟨x, hx, same⟩ := List.mem_map.mp found
  refine eq_of_not_ranksAhead ?_ (first _ (List.mem_map_of_mem mem))
  show ¬ ranksAhead (bestOf _ _) _ = true
  rw [← same]
  rcases leads x hx with ⟨station, grade⟩ | ahead
  · rw [station, grade]
    exact fun ahead => not_ranksAhead_of_ranksAhead ahead ahead
  · exact not_ranksAhead_of_ranksAhead ((ranksAhead_takers _ _).mpr ahead)

/-! ### Evaluation (R103) -/

theorem State.evaluate_of_changes (active : (s.binding b).state.active = true) (role : (s.binding b).coord.role ≠ .settling)
    (changes : s.viewChanges b = true) : s.evaluate b = s.changeView b (s.bestStation b).1 :=
  if_pos ⟨active, role, changes⟩

theorem State.evaluate_of_stays (stays : s.viewChanges b = false) : s.evaluate b = s := if_neg (by simp [stays])

theorem State.viewChanges_of_none (h : (s.binding b).coord.primary = none) : s.viewChanges b = true := by
  unfold State.viewChanges
  rw [h]

theorem State.viewChanges_of_best (h : (s.binding b).coord.primary = some (s.bestStation b).1) : s.viewChanges b = false := by
  unfold State.viewChanges
  rw [h]
  exact if_pos rfl

theorem State.viewChanges_of_other {view : Station} (h : (s.binding b).coord.primary = some view)
    (other : view ≠ (s.bestStation b).1) :
    s.viewChanges b = (match s.viewGrade b view with
      | none => true
      | some g => decide (g + s.opts.margin ≤ (s.bestStation b).2)) := by
  unfold State.viewChanges
  rw [h]
  exact if_neg other

theorem State.viewGrade_of_own : s.viewGrade b s.opts.station = some (s.binding b).acct.grade := if_pos rfl

theorem State.viewGrade_of_gone {view : Station} (other : view ≠ s.opts.station)
    (gone : ∀ x ∈ (s.binding b).coord.takers, x.station ≠ view) : s.viewGrade b view = none := by
  refine (if_neg other).trans ?_
  rw [List.find?_eq_none.mpr (by simpa using gone), Option.map_none]

theorem State.viewGrade_of_taker {view : Station} {g : Nat} (other : view ≠ s.opts.station)
    (listed : ∃ x ∈ (s.binding b).coord.takers, x.station = view)
    (grade : ∀ x ∈ (s.binding b).coord.takers, x.station = view → x.grade = g) : s.viewGrade b view = some g := by
  refine (if_neg other).trans ?_
  cases found : (s.binding b).coord.takers.find? (fun t => t.station = view) with
  | none =>
    obtain ⟨x, hx, station⟩ := listed
    exact absurd station (by simpa using List.find?_eq_none.mp found x hx)
  | some x => exact congrArg some (grade x (List.mem_of_find?_eq_some found) (by simpa using List.find?_some found))

/-- Settles O21: the best station is the one behind which every candidate ranks, and the cases of R103 follow. -/
theorem viewIsEvaluated : Obligations.ViewIsEvaluated := by
  intro b s r best own hr station grade mem leads
  subst hr
  have top := State.bestStation_eq station grade mem leads
  refine ⟨fun idle => ?_, fun active role => ⟨fun view => ?_, fun view => ?_,
    fun view hview other => ⟨fun foreign gone => ?_, fun g known => ?_⟩⟩⟩
  · refine if_neg ?_
    rintro ⟨active, role, -⟩
    rcases idle with idle | settling
    · exact absurd (State.isActive_iff.mp active) (by simp [idle])
    · exact role settling
  · exact State.evaluate_of_stays (State.viewChanges_of_best (view.trans (by rw [top])))
  · rw [State.evaluate_of_changes active role (State.viewChanges_of_none view), top]
  · rw [State.evaluate_of_changes active role, top]
    rw [State.viewChanges_of_other hview (by rwa [top]), State.viewGrade_of_gone (station ▸ foreign) gone]
  · have graded : s.viewGrade b view = some g := by
      rcases known with ⟨rfl, rfl⟩ | ⟨foreign, listed, grades⟩
      · rw [station, grade, State.viewGrade_of_own]
      · exact State.viewGrade_of_taker (station ▸ foreign) listed grades
    have changes : s.viewChanges b = decide (g + s.opts.margin ≤ best.grade) := by
      rw [State.viewChanges_of_other hview (by rwa [top]), graded, top]
    by_cases margin : g + s.opts.margin ≤ best.grade
    · rw [if_pos margin, State.evaluate_of_changes active role (by simp [changes, margin]), top]
    · rw [if_neg margin, State.evaluate_of_stays (by simp [changes, margin])]

/-! ### The taker list (R99) -/

theorem worstTaker_last {l : List Taker} {w : Taker} (h : worstTaker l = some w) :
    ∀ x ∈ l, ¬ ranksAhead (w.station, w.grade) (x.station, x.grade) = true := by
  induction l generalizing w with
  | nil => simp [worstTaker] at h
  | cons y ys ih =>
    unfold worstTaker at h
    cases worst : worstTaker ys with
    | none =>
      rw [worst] at h
      obtain rfl : y = w := by simpa using h
      have none_left : ys = [] := by
        cases ys with
        | nil => rfl
        | cons z zs =>
          unfold worstTaker at worst
          split at worst
          · simp at worst
          · split at worst <;> simp at worst
      subst none_left
      intro x hx
      obtain rfl : x = y := by simpa using hx
      exact fun ahead => not_ranksAhead_of_ranksAhead ahead ahead
    | some z =>
      have last := ih worst
      rw [worst] at h
      dsimp only at h
      split at h
      · next ahead =>
        obtain rfl : z = w := by simpa using h
        intro x hx
        obtain rfl | later := List.mem_cons.mp hx
        · exact not_ranksAhead_of_ranksAhead ahead
        · exact last x later
      · next behind =>
        obtain rfl : y = w := by simpa using h
        intro x hx
        obtain rfl | later := List.mem_cons.mp hx
        · exact fun ahead => not_ranksAhead_of_ranksAhead ahead ahead
        · exact not_ranksAhead_trans behind (last x later)

theorem takerList_enterTaker (old : List Taker) (e : Taker) : takerList old (enterTaker old e) e := by
  refine ⟨fun listed => ?_, fun unlisted room => ?_, fun unlisted full w hw last => ?_⟩
  · exact if_pos (by simpa using listed)
  · exact (if_neg (by simpa using unlisted)).trans (if_pos room)
  · have worst : worstTaker old = some w := by
      cases found : worstTaker old with
      | none =>
        unfold worstTaker at found
        split at found
        · simp at hw
        · split at found
          · simp at found
          · split at found <;> simp at found
      | some v =>
        rcases last v (worstTaker_mem found) with rfl | ahead
        · rfl
        · exact absurd ((ranksAhead_takers _ _).mpr ahead) (worstTaker_last found w hw)
    have entered : enterTaker old e =
        if ranksAhead (e.station, e.grade) (w.station, w.grade) then old.filter (fun x => x.station ≠ w.station) ++ [e]
        else old := by
      refine (if_neg (by simpa using unlisted)).trans ((if_neg (Nat.not_lt.mpr full)).trans ?_)
      rw [worst]
    rw [entered]
    exact ⟨fun ahead => if_pos ((ranksAhead_takers _ _).mpr ahead), fun behind => if_neg (by rwa [ranksAhead_takers])⟩

/-! ### A peer's TAKE and DONE, and an expiry (R99 to R101) -/

/-- Settles O20: a notice from another station in RUNNING reaches its operation, which takes the list through the three cases
of R99 or removes the station's entry. -/
theorem takersFollowNotices : Obligations.TakersFollowNotices := by
  intro t station clip grade role primary reason e s ⟨running, foreign⟩
  have onLane : s.node = .running ∨ s.node = .restarting := .inl running
  have take : exec (.take t station clip grade role primary) s = .next ((s.atTime t).peerTake station clip grade.toNat) :=
    congrArg _ (State.receive_of_other (s := s.atTime t) onLane foreign _ _ _)
  have done : exec (.done t station clip reason e) s = .next ((s.atTime t).peerDone station clip) :=
    congrArg _ (State.receive_of_other (s := s.atTime t) onLane foreign _ _ _)
  have none_active : s.activeFor clip = none → (s.atTime t).activeFor clip = none := id
  refine ⟨fun b found => ?_, fun idle => ?_, fun idle => ?_, fun b tick => ?_⟩
  · have active : (s.atTime t).activeFor clip = some b := found
    refine ⟨fun named => ⟨_, takerList_enterTaker _ _, ?_⟩, ?_⟩
    · rw [take]
      refine congrArg _ ((if_pos ⟨running, named⟩).trans ?_)
      rw [active]
      rfl
    · rw [done]
      refine congrArg _ ((if_pos running).trans ?_)
      rw [active]
      rfl
  · rw [take]
    by_cases unnamed : station = 0
    · exact congrArg _ (if_neg fun h => h.2 unnamed)
    · refine congrArg _ ((if_pos ⟨running, unnamed⟩).trans ?_)
      rw [none_active (idle.resolve_right unnamed)]
      rfl
  · rw [done]
    refine congrArg _ ((if_pos running).trans ?_)
    rw [none_active idle]
    rfl
  · have arm : exec (.takerExpiry t b station) s = .next ((s.atTime t).expireTaker b station) := by
      refine congrArg _ (if_pos ?_)
      exact decide_eq_true tick
    rw [arm]
    refine ⟨fun active ⟨x, hx, named, old⟩ => ?_, fun young => ?_⟩
    · refine congrArg _ (if_pos ⟨active, ?_⟩)
      exact List.any_eq_true.mpr ⟨x, hx, decide_eq_true ⟨named, old⟩⟩
    · refine congrArg _ (if_neg ?_)
      rintro ⟨-, old⟩
      obtain ⟨x, hx, h⟩ := List.any_eq_true.mp old
      obtain ⟨named, late⟩ := of_decide_eq_true h
      exact absurd (young x hx named) (Nat.not_lt.mpr late)

/-! ### Silence (R91, R92) -/

theorem State.gradeOf_of_silent (h : (s.binding b).acct.silent = true) : s.gradeOf b = 0 := if_pos (.inr (.inl h))

/-- Settles O19: a silent binding has grade 0, and a recomputation moves the grade and nothing else of the accounting. -/
theorem bindingFallsSilent : Obligations.BindingFallsSilent := by
  intro t b s r at' since tick hr arrival hsince
  subst hr hsince
  have last : (s.binding b).asm.lastArrival.getD (s.binding b).asm.takenAt = at' := by
    rcases arrival with arrived | ⟨never, taken⟩
    · rw [arrived, Option.getD_some]
    · rw [never, Option.getD_none, taken]
  have arm : exec (.bindingSilent t b) s = .next ((s.atTime t).fallSilent b) :=
    congrArg _ (if_pos (decide_eq_true tick))
  have condition : ((s.atTime t).isActive b ∧ ¬ ((s.atTime t).binding b).acct.silent ∧ 1000000 ≤ (s.atTime t).elapsed
      (msTime (((s.atTime t).binding b).asm.lastArrival.getD ((s.atTime t).binding b).asm.takenAt))) ↔
      (s.binding b).state.active = true ∧ (s.binding b).acct.silent = false ∧
        1000000 ≤ (t - BitVec.ofNat 48 (at'.toNat / 1000 * 1000)).toNat := by
    rw [State.atTime_binding, last, Bool.not_eq_true]
    rfl
  rw [arm]
  refine ⟨fun silent => ⟨_, rfl, State.worksOn_fallSilent _ b, ?_⟩, fun sound => congrArg _ (if_neg fun h => sound (condition.mp h))⟩
  have falls : (s.atTime t).fallSilent b =
      ((s.atTime t).updAcct b (fun a => { a with silent := true })).recomputeGrade b := if_pos (condition.mpr silent)
  have now_silent : (((s.atTime t).updAcct b (fun a => { a with silent := true })).binding b).acct =
      { (s.binding b).acct with silent := true } := by simp [State.updAcct]
  have asm : (((s.atTime t).updAcct b (fun a => { a with silent := true })).binding b).asm = (s.binding b).asm := by
    simp [State.updAcct]
  have state : (((s.atTime t).updAcct b (fun a => { a with silent := true })).binding b).state = (s.binding b).state := by
    simp [State.updAcct]
  have zero : ((s.atTime t).updAcct b (fun a => { a with silent := true })).gradeOf b = 0 :=
    State.gradeOf_of_silent (by rw [now_silent])
  rw [falls]
  have keeps := State.recordings_recomputeGrade ((s.atTime t).updAcct b (fun a => { a with silent := true })) b
  refine ⟨?_, ?_, ?_, (State.frees_recomputeGrade ((s.atTime t).updAcct b _) b).cells, fun graded => if_pos ?_⟩
  · rw [State.recomputeGrade_acct, zero, now_silent]
  · rw [State.asm_of_recordings keeps, asm]
  · rw [State.state_of_recordings keeps, state]
  · rw [zero, now_silent]
    exact graded.symm

/-! ### A new view (R104, R117) -/

theorem State.viewed_eq {clip : Clip} (active : (s.binding b).state.active = true) (named : (s.binding b).clip = some clip)
    (view : Station) :
    s.viewed b view = (s.updBinding b (fun q => { q with coord := q.coord.viewing s.opts.station view })).offer
      (.take clip (s.binding b).acct.grade (if view = s.opts.station then .primary else .shadow) (some view)) := by
  unfold State.viewed
  rw [State.offerTake_of_active (clip := clip)]
  · rw [State.binding_updBinding, if_pos rfl]
    rfl
  · rw [State.binding_updBinding, if_pos rfl]
    exact active
  · rw [State.binding_updBinding, if_pos rfl]
    exact named

theorem State.promote_eq (fs : List FrameRecord)
    (here : (s.binding b).coord.held.map (fun h => s.frame? h.frame) = fs.map some)
    (nodup : ((s.binding b).coord.held.map Held.frame).Nodup) (active : (s.binding b).state.active = true)
    (up : s.store.link = .up) (room : s.store.live.length + fs.length ≤ 256)
    (bounded : (s.binding b).counters.liveWrites ≤ 65535) :
    s.promote b = (s.updCoord b (fun c => { c with held := [] })).promoted b ((s.binding b).coord.held.map Held.frame) fs := by
  have emptied : ∀ {α : Type} (g : Binding → α), (∀ q c, g { q with coord := c } = g q) →
      g ((s.updCoord b (fun c => { c with held := [] })).binding b) = g (s.binding b) := by
    intro α g same
    rw [State.updCoord, State.binding_updBinding, if_pos rfl, same]
  have written := State.foldl_writeLive (s := s.updCoord b (fun c => { c with held := [] }))
    ((s.binding b).coord.held.map Held.frame) fs (by rw [List.map_map]; exact here) nodup
    ((emptied Binding.state fun _ _ => rfl) ▸ active) up room ((emptied Binding.counters fun _ _ => rfl) ▸ bounded)
  rw [List.foldl_map] at written
  exact written

/-- Settles O22: at SHADOW the view and its TAKE are all; at PRIMARY the promotion writes every held frame live. -/
theorem viewChanges : Obligations.ViewChanges := by
  intro b s w r view clip hr active named hw
  subst hr
  have seen : s.viewed b view = w := by rw [hw, State.viewed_eq active named]
  refine ⟨fun other => (s.changeView_of_other b other).trans seen, fun own fs here nodup up room bounded => ⟨_, rfl, ?_⟩⟩
  have changed : s.changeView b view = w.promote b := by rw [own, State.changeView_of_own, ← own, seen]
  have others : s.othersSame (s.changeView b view) b := (s.worksOn_changeView b view).2.2.2.1
  obtain ⟨l, c, offered⟩ := (s.updBinding b (fun q => { q with coord := q.coord.viewing s.opts.station view })).offer_spec
    (.take clip (s.binding b).acct.grade (if view = s.opts.station then .primary else .shadow) (some view))
  rw [offered] at hw
  have bound : w.binding b = { s.binding b with coord := (s.binding b).coord.viewing s.opts.station view } := by
    rw [hw]
    show (s.updBinding b (fun q => { q with coord := q.coord.viewing s.opts.station view })).binding b = _
    rw [State.binding_updBinding, if_pos rfl]
  have held : (w.binding b).coord.held = (s.binding b).coord.held := by rw [bound]; rfl
  have frames : w.frames = s.frames := by rw [hw]; rfl
  have store : w.store = s.store := by rw [hw]; rfl
  have few : (s.binding b).counters.liveWrites ≤ 65535 := bounded _ (by simp [BindingCounters.list])
  have lookup : w.frame? = s.frame? := by
    funext i
    unfold State.frame?
    rw [frames]
  have promoted := State.promote_eq (s := w) (b := b) fs (by rw [held, lookup]; exact here) (by rw [held]; exact nodup)
    (by rw [bound]; exact active) (by rw [store]; exact up) (by rw [store]; exact room) (by rw [bound]; exact few)
  rw [held] at promoted
  have emptied : (w.updCoord b (fun c => { c with held := [] })).binding b =
      { s.binding b with coord := { (s.binding b).coord.viewing s.opts.station view with held := [] } } := by
    rw [State.updCoord, State.binding_updBinding, if_pos rfl, bound]
  refine ⟨?_, others, ?_, ?_, ?_⟩
  · rw [changed, promoted]
    rfl
  · rw [changed, promoted, State.promoted, emptied, State.updCoord]
    exact congrArg (fun st : Store => { st with
      live := st.live ++ fs.map (fun f => jobFor .live b f (s.binding b).effEnd) }) store
  · rw [changed, promoted, State.promoted, emptied, State.updCoord]
    exact congrArg (fun l : List FrameRecord => l.map (fun f =>
      if f.index ∈ (s.binding b).coord.held.map Held.frame then f.sent (decide ((s.binding b).terms.browseCells ≠ 0)) else f))
      frames
  · rw [changed, promoted, State.promoted_binding, emptied]

end Sys2Proof.Machine
end

section
/-! The settle deadline and the frames that are held: due, under pressure, and the fate of a completed frame (R102, R109 to
R116). -/

namespace Sys2Proof.Machine

variable {s : State} {b : BindingNo}

/-! ### The settle deadline (R102) -/

theorem State.viewed_coord (view : Station) : ((s.viewed b view).binding b).coord =
    (s.binding b).coord.viewing s.opts.station view := by
  have told := State.offerTake_bindings (s.updBinding b (fun q => { q with coord := q.coord.viewing s.opts.station view })) b
  unfold State.viewed State.binding
  rw [told]
  show ((s.updBinding b (fun q => { q with coord := q.coord.viewing s.opts.station view })).binding b).coord = _
  rw [State.binding_updBinding, if_pos rfl]
  rfl

/-- The view and the role after a change of view, and the list that a promotion empties. -/
theorem State.changeView_coord (view : Station) :
    ((s.changeView b view).binding b).coord.primary = some view ∧
    ((s.changeView b view).binding b).coord.role = (if view = s.opts.station then .primary else .shadow) ∧
    (view = s.opts.station → ((s.changeView b view).binding b).coord.held = []) := by
  have viewed := State.viewed_coord (s := s) (b := b) view
  by_cases own : view = s.opts.station
  · subst own
    have coord : (((s.viewed b s.opts.station).updCoord b (fun c => { c with held := [] })).binding b).coord =
        { (s.binding b).coord.viewing s.opts.station s.opts.station with held := [] } := by
      rw [State.updCoord, State.binding_updBinding, if_pos rfl, viewed]
    have told := State.told_promote (s.viewed b s.opts.station) b
    rw [State.changeView_of_own, State.primary_of_told told, State.role_of_told told, State.held_of_told told, coord]
    exact ⟨rfl, rfl, fun _ => rfl⟩
  · rw [s.changeView_of_other b own, viewed]
    exact ⟨rfl, rfl, fun same => absurd same own⟩

/-- Settles O23: the deadline of a SETTLING binding changes its view to the best station; the two conditions of R102 are each
other's negation. -/
theorem settleDeadline : Obligations.SettleDeadline := by
  intro t b s r best own time hr station grade mem leads due
  subst hr
  have top : ((s.atTime t).updCoord b (fun c => { c with settle := none })).bestStation b = (best.station, best.grade) := by
    refine State.bestStation_eq (own := own) station ?_ ?_ ?_
    · rw [State.updCoord_acct]; exact grade
    · rw [State.updCoord, State.binding_updBinding, if_pos rfl]; exact mem
    · rw [State.updCoord, State.binding_updBinding, if_pos rfl]; exact leads
  have settle : (s.atTime t).settle b =
      if (s.atTime t).isActive b ∧ ((s.atTime t).binding b).coord.role = .settling ∧ reached (s.atTime t).now time then
        ((s.atTime t).updCoord b (fun c => { c with settle := none })).changeView b
          (((s.atTime t).updCoord b (fun c => { c with settle := none })).bestStation b).1
      else s.atTime t := by
    unfold State.settle
    rw [State.atTime_binding, due]
  have arm : exec (.settleDeadline t b) s = .next ((s.atTime t).settle b) := rfl
  refine ⟨fun now => ?_, fun other => ?_⟩
  · have settled : (s.atTime t).settle b = ((s.atTime t).updBinding b (fun q =>
        { q with coord := { q.coord with settle := none } })).changeView b best.station := by
      rw [settle]
      refine (if_pos ⟨now.1, now.2.1, (reached_iff _ _).mpr now.2.2⟩).trans ?_
      rw [top]
      rfl
    refine ⟨_, arm, settled, State.worksOn_settle (s.atTime t) b, ?_⟩
    rw [settled]
    exact State.changeView_coord best.station
  · rw [arm]
    refine congrArg _ (settle.trans (if_neg ?_))
    rintro ⟨active, role, time⟩
    exact other ⟨active, role, (reached_iff _ _).mp time⟩

/-! ### Held frames that are due or under pressure (R114 to R116) -/

theorem State.pressureTest_of_rest (rest : (s.binding b).coord.role = .primary ∨
    s.holding b < 3 * (Config.poolCells / s.busyBindings.length) / 4 ∨ (s.binding b).coord.held = []) :
    s.pressureTest b = s := by
  unfold State.pressureTest
  split
  · next pressed =>
    rcases rest with primary | below | none
    · exact absurd (decide_eq_true primary) pressed.2.1
    · exact absurd pressed.2.2 (Nat.not_le.mpr below)
    · rw [none]
  · rfl

theorem State.pressureTest_of_pressed {h : Held} {rest : List Held} (active : (s.binding b).state.active = true)
    (role : (s.binding b).coord.role ≠ .primary) (held : (s.binding b).coord.held = h :: rest)
    (pressed : 3 * (Config.poolCells / s.busyBindings.length) / 4 ≤ s.holding b) : s.pressureTest b = s.fillHeld b h := by
  unfold State.pressureTest
  rw [held]
  exact if_pos ⟨active, by simpa [State.isPrimary] using role, pressed⟩

theorem State.holdDue_of_found {h : Held} (active : (s.binding b).state.active = true)
    (found : (s.binding b).coord.held.find? (fun h => houseReached s.house.counter h.deadline) = some h) :
    s.holdDue b = s.fillHeld b h := by
  unfold State.holdDue
  rw [found]
  exact if_pos active

theorem State.holdDue_of_none
    (none_due : (s.binding b).coord.held.find? (fun h => houseReached s.house.counter h.deadline) = none) : s.holdDue b = s := by
  unfold State.holdDue
  rw [none_due]
  exact ite_self _

/-- Settles O25: the first due frame of the list and the first one under pressure are filled, each as a fill in general. -/
theorem heldFramesAreFilled : Obligations.HeldFramesAreFilled := by
  refine ⟨fun t b s r hr active => ⟨fun pre post h f held early due here up room => ?_, fun none_due => ?_⟩,
    fun b h s r f hr active here => ?_, fun b s r hr => ⟨State.pressureTest_of_rest ∘ (hr ▸ ·), fun h rest f active role held
      pressed here up room => ?_⟩⟩
  · subst hr
    have found : ((s.atTime t).binding b).coord.held.find? (fun x => houseReached (s.atTime t).house.counter x.deadline) =
        some h := by
      rw [State.atTime_binding, held, List.find?_append, List.find?_eq_none.mpr, Option.none_or]
      · exact List.find?_cons_of_pos ((houseReached_iff _ _).mpr due)
      · exact fun x hx => (not_houseReached_iff _ _).mpr (early x hx)
    exact congrArg _ ((State.holdDue_of_found (s := s.atTime t) active found).trans
      (State.fillHeld_of_room (s := s.atTime t) here active up room))
  · subst hr
    refine congrArg _ (State.holdDue_of_none (s := s.atTime t) (List.find?_eq_none.mpr fun x hx => ?_))
    exact (not_houseReached_iff _ _).mpr (none_due x hx)
  · subst hr
    exact State.fillHeld_eq here active
  · subst hr
    rw [State.pressureTest_of_pressed active role held pressed, State.fillHeld_of_room here active up room]

/-! ### The fate of a frame (R109 to R112) -/

theorem insertHeld_sorted (h : Held) {l : List Held} (sorted : l.Pairwise (fun x y => x.position ≤ y.position)) :
    (insertHeld h l).Pairwise (fun x y => x.position ≤ y.position) := by
  induction l with
  | nil => simp [insertHeld]
  | cons x xs ih =>
    obtain ⟨above, rest⟩ := List.pairwise_cons.mp sorted
    unfold insertHeld
    split
    · next below =>
      refine List.pairwise_cons.mpr ⟨fun y hy => ?_, sorted⟩
      obtain rfl | later := List.mem_cons.mp hy
      · exact Nat.le_of_lt below
      · exact Nat.le_trans (Nat.le_of_lt below) (above y later)
    · next not_below =>
      refine List.pairwise_cons.mpr ⟨fun y hy => ?_, ih rest⟩
      obtain rfl | later := List.mem_cons.mp ((insertHeld_perm h xs).mem_iff.mp hy)
      · exact Nat.not_lt.mp not_below
      · exact above y later

theorem Coordination.fillsAtOnce_iff (c : Coordination) (position : Nat) :
    c.fillsAtOnce position = true ↔
      kindAt c.map position = some .primaryGap ∨ ∃ th, c.primaryThrough = some th ∧ position < th := by
  unfold Coordination.fillsAtOnce
  cases c.primaryThrough <;> simp

/-- A binding holds as many cells after a change of a record that leaves its binding and its cells. -/
theorem State.holding_withFrame (i : Nat) {g : FrameRecord → FrameRecord}
    (owner : ∀ f, (g f).binding = f.binding) (cells : ∀ f, (g f).cells = f.cells) : (s.withFrame i g).holding b = s.holding b := by
  have owners : ∀ f : FrameRecord, (if f.index = i then g f else f).binding = f.binding := by
    intro f; split
    · exact owner f
    · rfl
  have sizes : ∀ f : FrameRecord, (if f.index = i then g f else f).cells.length = f.cells.length := by
    intro f; split
    · rw [cells]
    · rfl
  unfold State.holding State.withFrame
  simp only [List.filter_map, List.map_map, Function.comp_def, owners, sizes]

section
variable {index : Nat} {f : FrameRecord} (here : s.frame? index = some f)
include here

theorem State.decideFate_eq :
    s.decideFate b index =
      if coveredIn (s.binding b).coord.map f.spanStart (min f.spanEnd (s.binding b).effEnd) then s.yieldFrame b index
      else if f.colour = some .red then s.redFrame b f
      else if (s.binding b).coord.role = .primary then s.writeLive b index
      else s.holdFrame b f := by
  unfold State.decideFate
  rw [here]

theorem State.yieldFrame_of_unused (unused : f.users = 0) (active : (s.binding b).state.active = true) :
    s.yieldFrame b index = (s.freed f).updBinding b (fun q =>
      q.counting (fun c => { c with yields := oneMore c.yields })) := by
  have released : s.releaseFrame index = s.freed f := (State.releaseFrame_of_some here).trans (if_pos unused)
  unfold State.yieldFrame
  rw [released]
  exact State.count_of_active (s := s.freed f) active .yields 1

theorem State.redFrame_of_unused (unused : f.users = 0) :
    s.redFrame b f = (s.ownGap b f.spanStart (min f.spanEnd (s.binding b).effEnd)).freed f := by
  have kept : (s.ownGap b f.spanStart (min f.spanEnd (s.binding b).effEnd)).frame? f.index = some f := by
    have frames : (s.ownGap b f.spanStart (min f.spanEnd (s.binding b).effEnd)).frames = s.frames := by
      unfold State.ownGap
      dsimp only
      split
      · split <;> rfl
      · rfl
    rw [FrameRecord.index_of_frame? here]
    unfold State.frame?
    rw [frames]
    exact here
  exact (State.releaseFrame_of_some kept).trans (if_pos unused)

end

/-- A binding with a frame entered in its held-frame list. -/
def State.withHeld (s : State) (b : BindingNo) (h : Held) : State :=
  (s.withFrame h.frame (fun x => { x with state := .held })).updBinding b (fun q =>
    { q with coord := { q.coord with held := insertHeld h (s.binding b).coord.held } })

theorem State.holdFrame_eq (f : FrameRecord) {h : Held}
    (entry : h = ⟨f.index, f.spanStart, min f.spanEnd (s.binding b).effEnd, s.house.counter + BitVec.ofNat 32 s.opts.window⟩) :
    s.holdFrame b f =
      (if (s.binding b).coord.fillsAtOnce f.spanStart then (s.withHeld b h).fillHeld b h else s.withHeld b h).pressureTest b := by
  have entered : (s.updFrame f.index (fun x => { x with state := .held })).updCoord b
      (fun c => { c with held := insertHeld h c.held }) = s.withHeld b h := by
    rw [State.withHeld, entry]
    exact State.updBinding_congr (s := s.withFrame f.index (fun x => { x with state := .held })) rfl
  unfold State.holdFrame
  dsimp only
  rw [← entry, entered]

theorem State.withHeld_pressureTest (h : Held)
    (below : s.holding b < 3 * (Config.poolCells / s.busyBindings.length) / 4) :
    (s.withHeld b h).pressureTest b = s.withHeld b h := by
  refine State.pressureTest_of_rest (.inr (.inl ?_))
  have holding : (s.withHeld b h).holding b = s.holding b :=
    s.holding_withFrame h.frame (fun _ => rfl) (fun _ => rfl)
  have busy : (s.withHeld b h).busyBindings = s.busyBindings := by
    unfold State.busyBindings
    refine List.filter_congr fun x _ => ?_
    unfold State.withHeld
    rw [State.binding_updBinding]
    split
    · next same => rw [same]; rfl
    · rfl
  rw [holding, busy]
  exact below

/-- Settles O27: the first test of R109 that holds decides, each fate with the operation that it names. -/
theorem fateOfFrame : Obligations.FateOfFrame := by
  intro b index s r f hi hr active ordered here unused hhi
  subst hr hhi
  have named : f.index = index := FrameRecord.index_of_frame? here
  have covered := coveredIn_iff (s.binding b).coord.map ordered f.spanStart (min f.spanEnd (s.binding b).effEnd)
  refine ⟨fun kept => ?_, fun fresh => ⟨fun red => ?_, fun not_red primary up room => ?_, fun not_red primary => ?_,
    fun not_red other h entry => ?_⟩⟩
  · rw [State.decideFate_eq here, if_pos (covered.mpr kept), State.yieldFrame_of_unused here unused active]
  · rw [State.decideFate_eq here, if_neg (fresh ∘ covered.mp), if_pos red, State.redFrame_of_unused here unused]
  · rw [State.decideFate_eq here, if_neg (fresh ∘ covered.mp), if_neg not_red, if_pos primary]
    have written := State.writeFrame_of_room here active (cls := .live) .liveWrites up room
    rw [show s.store.queue .live = s.store.live from rfl, Store.setQueue_live_append] at written
    exact written
  · rw [State.decideFate_eq here, if_neg (fresh ∘ covered.mp), if_neg not_red, if_pos primary]
    exact State.writeFrame_eq here active .live .liveWrites
  · have held : s.decideFate b index = s.holdFrame b f := by
      rw [State.decideFate_eq here, if_neg (fresh ∘ covered.mp), if_neg not_red, if_neg other]
    have at_once := (s.binding b).coord.fillsAtOnce_iff f.spanStart
    have frame : h.frame = index := by rw [entry]
    refine ⟨insertHeld h (s.binding b).coord.held, s.withHeld b h, insertHeld_perm h _,
      fun sorted => insertHeld_sorted h (sorted.imp Nat.le_of_lt), by rw [State.withHeld, frame], fun filled => ?_,
      fun not_gap not_below => ?_⟩
    · rw [held, State.holdFrame_eq f (h := h) (by rw [entry, named]), if_pos (at_once.mpr filled)]
    · have waits : s.decideFate b index = (s.withHeld b h).pressureTest b := by
        rw [held, State.holdFrame_eq f (h := h) (by rw [entry, named]), if_neg]
        rw [at_once]
        rintro (gap | ⟨th, through, below⟩)
        · exact not_gap gap
        · exact absurd below (Nat.not_lt.mpr (not_below th through))
      exact ⟨waits, fun below => waits.trans (State.withHeld_pressureTest h below)⟩

end Sys2Proof.Machine
end

section
/-! The audio of a frame: what an audio piece adds to the maxima of the channels, and the stored peaks (R94, R95). -/

namespace Sys2Proof.Machine

/-! ### Samples -/

theorem field_cons3 (a b c : Byte) (rest : List Byte) (i : Nat) :
    field (a :: b :: c :: rest) (3 * (i + 1)) 3 = field rest (3 * i) 3 := by
  simp only [field, slice, Nat.mul_add, Nat.mul_one, List.drop_succ_cons]

theorem field_first3 (a b c : Byte) (rest : List Byte) :
    field (a :: b :: c :: rest) 0 3 = a.toNat * 65536 + b.toNat * 256 + c.toNat := by
  simp [field, slice, valueOf]
  omega

/-- The magnitude of the sample with an index in a payload (R95). -/
def sampleAt (payload : List Byte) (i : Nat) : Nat :=
  if field payload (3 * i) 3 < 2 ^ 23 then field payload (3 * i) 3 else min (2 ^ 23 - 1) (2 ^ 24 - field payload (3 * i) 3)

theorem sampleAt_zero (a b c : Byte) (rest : List Byte) : sampleAt (a :: b :: c :: rest) 0 = magnitude a b c := by
  unfold sampleAt magnitude
  rw [Nat.mul_zero, field_first3]
  rfl

theorem sampleAt_succ (a b c : Byte) (rest : List Byte) (i : Nat) :
    sampleAt (a :: b :: c :: rest) (i + 1) = sampleAt rest i := by
  unfold sampleAt
  rw [field_cons3]

/-- The samples of a channel among the first `n` of a payload, where the first is of channel `j`. -/
def channelSamples (channels j n k : Nat) (payload : List Byte) : List Nat :=
  ((List.range n).filter (fun i => (j + i) % channels = k)).map (sampleAt payload)

theorem channelSamples_succ {channels j : Nat} (h : j < channels) (n k : Nat) (a b c : Byte) (rest : List Byte) :
    channelSamples channels j (n + 1) k (a :: b :: c :: rest) =
      (if j = k then [magnitude a b c] else []) ++ channelSamples channels ((j + 1) % channels) n k rest := by
  have later : ((List.range n).map Nat.succ).filter (fun i => (j + i) % channels = k) =
      ((List.range n).filter (fun i => ((j + 1) % channels + i) % channels = k)).map Nat.succ := by
    rw [List.filter_map]
    refine congrArg (List.map Nat.succ) (List.filter_congr fun i _ => ?_)
    simp only [Function.comp, Nat.mod_add_mod, Nat.succ_eq_add_one, Nat.add_assoc, Nat.add_comm 1 i]
  have first : (j + 0) % channels = j := Nat.mod_eq_of_lt h
  unfold channelSamples
  rw [List.range_succ_eq_map, List.filter_cons, later, first]
  split
  · next here =>
    rw [if_pos (of_decide_eq_true here), List.map_cons, sampleAt_zero, List.map_map]
    exact congrArg _ (List.map_congr_left fun i _ => sampleAt_succ ..)
  · next other =>
    rw [if_neg (by simpa using other), List.map_map]
    exact List.map_congr_left fun i _ => sampleAt_succ ..

/-- Reading samples in turn takes for each channel the greatest of its own. -/
theorem readSamples_getElem {channels : Nat} (few : channels ≤ 4) (k : Fin 4) (n : Nat) :
    ∀ (j : Nat) (payload : List Byte) (m : Vector Nat 4), j < channels → 3 * n ≤ payload.length →
      (readSamples channels (3 * n) j payload m)[k] = (channelSamples channels j n k.val payload).foldl max m[k] := by
  induction n with
  | zero =>
    intro j payload m _ _
    have unread : readSamples channels (3 * 0) j payload m = m := by
      rcases payload with _ | ⟨a, _ | ⟨b, _ | ⟨c, rest⟩⟩⟩ <;> rfl
    rw [unread]
    rfl
  | succ n ih =>
    intro j payload m inside long
    obtain ⟨a, b, c, rest, rfl⟩ : ∃ a b c rest, payload = a :: b :: c :: rest := by
      rcases payload with _ | ⟨a, _ | ⟨b, _ | ⟨c, rest⟩⟩⟩
      · simp at long
      · simp at long; omega
      · simp at long; omega
      · exact ⟨a, b, c, rest, rfl⟩
    have turn : (if j + 1 < channels then j + 1 else 0) = (j + 1) % channels := by
      split
      · next more => exact (Nat.mod_eq_of_lt more).symm
      · next last =>
        have : j + 1 = channels := by omega
        rw [this, Nat.mod_self]
    have step : readSamples channels (3 * (n + 1)) j (a :: b :: c :: rest) m =
        readSamples channels (3 * n) ((j + 1) % channels) rest
          (m.set (Fin.ofNat 4 j) (max m[Fin.ofNat 4 j] (magnitude a b c))) := by
      rw [← turn]
      exact if_neg (by omega)
    have next : (j + 1) % channels < channels := Nat.mod_lt _ (by omega)
    rw [step, ih _ rest _ next (by simp at long; omega), channelSamples_succ inside]
    have value : (Fin.ofNat 4 j).val = j := Nat.mod_eq_of_lt (by omega)
    by_cases here : j = k.val
    · have same : Fin.ofNat 4 j = k := Fin.ext (value.trans here)
      subst same
      rw [if_pos here]
      simp
    · rw [if_neg here, List.nil_append]
      congr 1
      exact Vector.getElem_set_ne _ _ (by rw [value]; exact here)

/-! ### Channels -/

/-- The samples of a channel over whole groups are those at its place in each group. -/
theorem filter_range_groups {channels k : Nat} (h : k < channels) (g : Nat) :
    (List.range (channels * g)).filter (fun i => (0 + i) % channels = k) = (List.range g).map (fun q => channels * q + k) := by
  induction g with
  | zero => rfl
  | succ g ih =>
    have group : (List.range channels).filter (fun i => (0 + (channels * g + i)) % channels = k) = [k] := by
      have residue : ∀ i ∈ List.range channels, decide ((0 + (channels * g + i)) % channels = k) = decide (i = k) := by
        intro i hi
        rw [Nat.zero_add, Nat.mul_add_mod, Nat.mod_eq_of_lt (List.mem_range.mp hi)]
      rw [List.filter_congr residue, List.filter_eq, List.count_eq_one_of_mem List.nodup_range (List.mem_range.mpr h)]
      rfl
    rw [Nat.mul_succ, List.range_add, List.filter_append, ih, List.filter_map, List.range_succ, List.map_append]
    exact congrArg _ (congrArg (List.map (fun i => channels * g + i)) group)

theorem channelSamples_groups {channels k : Nat} (h : k < channels) (payload : List Byte) :
    channelSamples channels 0 (channels * (payload.length / (3 * channels))) k payload = magnitudesOf channels k payload := by
  unfold channelSamples magnitudesOf
  rw [filter_range_groups h, List.map_map]
  rfl

theorem channelSamples_of_le {channels j n k : Nat} (some_channel : 0 < channels) (h : channels ≤ k) (payload : List Byte) :
    channelSamples channels j n k payload = [] := by
  unfold channelSamples
  rw [List.filter_eq_nil_iff.mpr, List.map_nil]
  intro i _
  have := Nat.mod_lt (j + i) some_channel
  simp only [decide_eq_true_eq]
  omega

/-- What reading an audio piece makes of the maximum of a channel (R94). -/
theorem readAudio_getElem {channels : Nat} (few : channels ≤ 4) (payload : List Byte) (m : Vector Nat 4) (k : Fin 4) :
    (readAudio channels payload m)[k] =
      if k.val < channels then (magnitudesOf channels k.val payload).foldl max m[k] else m[k] := by
  rcases Nat.eq_zero_or_pos channels with rfl | some_channel
  · rfl
  · have whole : payload.length / (3 * channels) * (3 * channels) = 3 * (channels * (payload.length / (3 * channels))) := by
      rw [Nat.mul_comm, Nat.mul_assoc]
    have read : readAudio channels payload m =
        readSamples channels (3 * (channels * (payload.length / (3 * channels)))) 0 payload m := by
      rw [← whole]
      exact if_neg (by omega)
    rw [read, readSamples_getElem few k _ 0 payload m some_channel (whole ▸ Nat.div_mul_le_self _ _)]
    split
    · next own => rw [channelSamples_groups own]
    · next none => rw [channelSamples_of_le some_channel (Nat.not_lt.mp none)]; rfl

theorem storedPeaks_getElem (channels : Nat) (m : Vector Nat 4) (k : Fin 4) :
    (storedPeaks channels m)[k] = if k.val < channels then m[k] / 128 else 0 := by
  fin_cases k <;> rfl

end Sys2Proof.Machine
end

section
/-! A completed frame (R46, R54, R82, R89). -/

namespace Sys2Proof.Machine

variable {s : State} {b : BindingNo}

/-! ### Closures in the history, and the base (R46, R89) -/

/-- A binding with an outcome as the newest of its last eight. -/
def Binding.withOutcome (r : Binding) (o : Closure) : Binding :=
  { r with acct := { r.acct with history := lastEight (r.acct.history ++ [o]) } }

theorem State.takeClosure_eq (o : Closure) :
    s.takeClosure b o = (s.updBinding b (fun q => q.withOutcome o)).recomputeGrade b := rfl

theorem State.outcomesTaken_singleton (o : Closure) : s.outcomesTaken b [o] = s.takeClosure b o := rfl

theorem State.recordings_takeClosure (o : Closure) :
    (s.takeClosure b o).recordings = (s.updBinding b (fun q => q.withOutcome o)).recordings :=
  State.recordings_recomputeGrade _ b

theorem Assembly.advanced_eq (a : Assembly) (eight : a.slots.length = 8) :
    { a with
      base := a.base.map (fun n => n + BitVec.ofNat 32 (closedPrefix a.slots))
      slots := shiftSlots (closedPrefix a.slots) a.slots } = a.advanced := by
  have few : min (closedPrefix a.slots) Config.windowSlots = closedPrefix a.slots :=
    min_eq_left ((closedPrefix_le a.slots).trans eight.le)
  rw [Assembly.advanced, shiftSlots, few, closedPrefix_eq]

theorem State.advanceBase_eq (eight : (s.binding b).asm.slots.length = 8) :
    s.advanceBase b = s.updBinding b (fun q =>
      { q with asm := if (s.binding b).state = .recording then q.asm.advanced else q.asm }) := by
  unfold State.advanceBase
  split
  · next recording =>
    refine State.updBinding_congr ?_
    exact congrArg (fun a => { s.binding b with asm := a }) (Assembly.advanced_eq _ eight)
  · exact (State.updBinding_of_fixed rfl).symm

/-! ### Colouring leaves the window (R85) -/

/-- What colouring leaves of a record: all but the buckets and the counters of the colours. -/
theorem State.colourFrame_binding (f : FrameRecord) : ∃ committed excess yellow red,
    (s.colourFrame b f).binding b = { s.binding b with
      acct := { (s.binding b).acct with committed := committed, excess := excess }
      counters := { (s.binding b).counters with yellow := yellow, red := red } } := by
  have coloured : ∀ (c : Accounting → Accounting) (g : FrameRecord → FrameRecord),
      ((s.updAcct b c).updFrame f.index g).binding b = { s.binding b with acct := c (s.binding b).acct } := by
    intro c g
    show (s.updBinding b (fun r => { r with acct := c r.acct })).binding b = _
    rw [State.binding_updBinding, if_pos rfl]
  have counted : ∀ (v : State) (k : BindingCounter), k = .yellow ∨ k = .red → ∃ yellow red,
      (v.count b k).binding b = { v.binding b with counters := { (v.binding b).counters with yellow := yellow, red := red } } := by
    intro v k colour
    by_cases active : (v.binding b).state.active = true
    · rw [State.count_of_active active, State.binding_updBinding, if_pos rfl]
      rcases colour with rfl | rfl
      · exact ⟨_, _, rfl⟩
      · exact ⟨_, _, rfl⟩
    · have uncounted : v.count b k = v := if_neg active
      rw [uncounted]
      exact ⟨_, _, rfl⟩
  unfold State.colourFrame
  dsimp only
  split
  · exact ⟨_, _, _, _, coloured _ _⟩
  · obtain ⟨y, r, h⟩ := counted (((s.updAcct b _).updFrame f.index _)) .yellow (.inl rfl)
    exact ⟨_, _, y, r, h.trans (by rw [coloured])⟩
  · obtain ⟨y, r, h⟩ := counted (((s.updAcct b _).updFrame f.index _)) .red (.inr rfl)
    exact ⟨_, _, y, r, h.trans (by rw [coloured])⟩

/-! ### Completion (R54, R82) -/

/-- A state in which a slot has closed COMPLETE and the completion is counted. -/
def State.slotComplete (s : State) (b : BindingNo) (i : Nat) : State :=
  s.updBinding b (fun q =>
    { q with
      asm := { q.asm with slots := q.asm.slots.set i (.closed .complete) }
      counters := { q.counters with complete := oneMore q.counters.complete } })

theorem State.slotComplete_binding (i : Nat) : (s.slotComplete b i).binding b =
    { s.binding b with
      asm := { (s.binding b).asm with slots := (s.binding b).asm.slots.set i (.closed .complete) }
      counters := { (s.binding b).counters with complete := oneMore (s.binding b).counters.complete } } := by
  rw [State.slotComplete, State.binding_updBinding, if_pos rfl]

theorem State.slotComplete_eq (active : (s.binding b).state.active = true) (i : Nat) :
    (s.setSlot b i (.closed .complete)).count b .complete = s.slotComplete b i := by
  rw [State.setSlot, State.updAsm, State.count_of_active, State.updBinding_updBinding]
  · rfl
  · rw [State.binding_updBinding, if_pos rfl]
    exact active

/-- A frame that passes through Frame Accounting, up to the decision of its fate (R82, R95). -/
def State.accounted (s : State) (b : BindingNo) (f : FrameRecord) : State :=
  (((s.colourFrame b f).updBinding b (fun q => { q with acct := { q.acct with lastQuality := f.quality } })).takeClosure b
    .complete).withFrame f.index (fun x => { x with peaks := storedPeaks (s.binding b).terms.audio x.maxima })

theorem State.recordings_withFrame (i : Nat) (g : FrameRecord → FrameRecord) : (s.withFrame i g).recordings = s.recordings := rfl

theorem State.recordings_accounted (f : FrameRecord) : (s.accounted b f).recordings =
    ((s.colourFrame b f).updBinding b (fun q =>
      ({ q with acct := { q.acct with lastQuality := f.quality } }).withOutcome .complete)).recordings := by
  have taken := State.recordings_takeClosure
    (s := (s.colourFrame b f).updBinding b (fun q => { q with acct := { q.acct with lastQuality := f.quality } })) (b := b)
    .complete
  rw [State.updBinding_updBinding] at taken
  unfold State.accounted
  rw [State.recordings_withFrame]
  exact taken

theorem State.accountComplete_eq (f : FrameRecord) : s.accountComplete b f = (s.accounted b f).decideFate b f.index := by
  have terms : ((((s.colourFrame b f).updAcct b (fun a => { a with lastQuality := f.quality })).takeClosure b
      .complete).binding b).terms = (s.binding b).terms := by
    rw [State.terms_of_recordings (State.recordings_takeClosure _), State.updAcct, State.updBinding_updBinding,
      State.binding_updBinding, if_pos rfl]
    obtain ⟨_, _, _, _, coloured⟩ := State.colourFrame_binding (s := s) (b := b) f
    simp [Binding.withOutcome, coloured]
  unfold State.accountComplete
  dsimp only
  rw [terms]
  rfl

section Reading

variable {r q : Binding} (h : r.recording = q.recording)
include h

theorem Binding.state_of_recording : r.state = q.state := (congrArg Binding.state h :)

theorem Binding.asm_of_recording : r.asm = q.asm := (congrArg Binding.asm h :)

theorem Binding.complete_of_recording : r.counters.complete = q.counters.complete :=
  (congrArg (fun x => x.counters.complete) h :)

theorem Binding.history_of_recording : r.acct.history = q.acct.history := (congrArg (fun x => x.acct.history) h :)

theorem Binding.lastQuality_of_recording : r.acct.lastQuality = q.acct.lastQuality :=
  (congrArg (fun x => x.acct.lastQuality) h :)

end Reading

/-- What a completion leaves of the binding's recording: its slot, its count, its last quality code and its history. -/
theorem State.recordings_completed (i : Nat) (f : FrameRecord) : ∃ committed excess yellow red,
    (((s.slotComplete b i).accountComplete b f).binding b).recording =
      (({ s.binding b with
        asm := { (s.binding b).asm with slots := (s.binding b).asm.slots.set i (.closed .complete) }
        acct := { (s.binding b).acct with committed := committed, excess := excess, lastQuality := f.quality }
        counters := { (s.binding b).counters with
          complete := oneMore (s.binding b).counters.complete, yellow := yellow, red := red } } :
        Binding).withOutcome .complete).recording := by
  obtain ⟨committed, excess, yellow, red, coloured⟩ := State.colourFrame_binding (s := s.slotComplete b i) (b := b) f
  refine ⟨committed, excess, yellow, red, ?_⟩
  rw [State.accountComplete_eq]
  refine (congrFun (State.recordings_decideFate _ b f.index) b).trans ((congrFun (State.recordings_accounted f) b).trans ?_)
  unfold State.recordings
  rw [State.binding_updBinding, if_pos rfl, coloured, State.slotComplete_binding]

/-- Settles O13: the completion is one change in the order of R82, and the audio is read channel by channel. -/
theorem frameCompletes : Obligations.FrameCompletes := by
  refine ⟨?_, fun channels payload m k few => ⟨readAudio_getElem few payload m k, storedPeaks_getElem channels m k⟩⟩
  intro b i index s u w r f hr gathering here small eight hu hw
  subst hr
  have named : f.index = index := FrameRecord.index_of_frame? here
  obtain ⟨committed, excess, yellow, red, completed⟩ := State.recordings_completed (s := s) (b := b) i f
  have state : (((s.slotComplete b i).accountComplete b f).binding b).state = (s.binding b).state :=
    (Binding.state_of_recording completed :)
  have asm : (((s.slotComplete b i).accountComplete b f).binding b).asm =
      { (s.binding b).asm with slots := (s.binding b).asm.slots.set i (.closed .complete) } :=
    (Binding.asm_of_recording completed :)
  have advanced : u = ((s.slotComplete b i).accountComplete b f).updBinding b (fun q =>
      { q with asm := if (s.binding b).state = .recording then q.asm.advanced else q.asm }) := by
    have accounted : u = ((s.slotComplete b i).accountComplete b f).advanceBase b := by
      rw [hu, State.completeFrame, State.slotComplete_eq (BindingState.active_of_recording_or_finishing gathering)]
      rw [show (s.slotComplete b i).frame? index = some f from here]
    rw [accounted, State.advanceBase_eq (by rw [asm]; simpa using eight), state]
  have read : u.binding b = { ((s.slotComplete b i).accountComplete b f).binding b with
      asm := if (s.binding b).state = .recording then (((s.slotComplete b i).accountComplete b f).binding b).asm.advanced
        else (((s.slotComplete b i).accountComplete b f).binding b).asm } := by
    rw [advanced, State.binding_updBinding, if_pos rfl]
  refine ⟨?_, hu ▸ State.worksOn_completeFrame s b i index, ?_, ?_, ?_, ?_, ?_⟩
  · rw [advanced, State.accountComplete_eq, hw, named, State.accounted, named, State.slotComplete_binding]
    rfl
  · rw [read]; dsimp only; exact state
  · rw [read, ← asm]
  · rw [read]; dsimp only; exact (Binding.complete_of_recording completed :)
  · rw [read]; dsimp only; exact (Binding.history_of_recording completed :)
  · rw [read]; dsimp only; exact (Binding.lastQuality_of_recording completed :)

end Sys2Proof.Machine
end

section
/-! The closures of one event: the slots that close, the frames that are freed, the outcomes and the gaps (R55 to R57). -/

namespace Sys2Proof.Machine

variable {s : State} {b : BindingNo}

/-! ### Several slots closed at once -/

theorem State.slotsClosed_binding (gone slots : List Slot) (i n : Nat) : (s.slotsClosed b gone slots i n).binding b =
    { s.binding b with
      asm := { (s.binding b).asm with slots := slots }
      counters := { (s.binding b).counters with
        incomplete := min 65535 ((s.binding b).counters.incomplete + i)
        unseen := min 65535 ((s.binding b).counters.unseen + n) } } := by
  unfold State.slotsClosed
  rw [State.binding_updBinding, if_pos rfl]
  rfl

/-- Whether one of some slots holds a frame record. -/
def holdsFrame (gone : List Slot) (f : FrameRecord) : Bool := gone.any (fun x => x.frame? = some f.index)

theorem State.slotsClosed_congr {gone gone' : List Slot} (same : ∀ f : FrameRecord, holdsFrame gone f = holdsFrame gone' f)
    (slots : List Slot) (i n : Nat) : s.slotsClosed b gone slots i n = s.slotsClosed b gone' slots i n := by
  have tests : (fun f : FrameRecord => gone.any (fun x => x.frame? = some f.index)) =
      fun f => gone'.any (fun x => x.frame? = some f.index) := funext same
  have kept : (fun f : FrameRecord => !gone.any (fun x => x.frame? = some f.index)) =
      fun f => !gone'.any (fun x => x.frame? = some f.index) := funext fun f => congrArg (!·) (same f)
  unfold State.slotsClosed
  rw [tests, kept]

/-- The cells of the records that pass one of two tests. -/
theorem sum_cells_filter_or (p q : FrameRecord → Bool) (l : List FrameRecord) :
    ((l.filter p).map (fun f => f.cells.length)).sum +
      (((l.filter (fun f => !p f)).filter q).map (fun f => f.cells.length)).sum =
    ((l.filter (fun f => p f || q f)).map (fun f => f.cells.length)).sum := by
  induction l with
  | nil => rfl
  | cons f fs ih =>
    cases hp : p f <;> cases hq : q f <;> simp [hp, hq] at ih ⊢ <;> omega

/-- Slots that close one after another have closed at once. -/
theorem State.slotsClosed_slotsClosed (gone gone' slots slots' : List Slot) (i i' n n' : Nat) :
    (s.slotsClosed b gone slots i n).slotsClosed b gone' slots' i' n' =
      s.slotsClosed b (gone ++ gone') slots' (i + i') (n + n') := by
  have frames : (s.frames.filter (fun f => !gone.any (fun x => x.frame? = some f.index))).filter
        (fun f => !gone'.any (fun x => x.frame? = some f.index)) =
      s.frames.filter (fun f => !(gone ++ gone').any (fun x => x.frame? = some f.index)) := by
    rw [List.filter_filter]
    refine List.filter_congr fun f _ => ?_
    rw [List.any_append, Bool.not_or, Bool.and_comm]
  have cells : s.freeCells + ((s.frames.filter (fun f => gone.any (fun x => x.frame? = some f.index))).map
          (fun (f : FrameRecord) => f.cells.length)).sum +
        (((s.frames.filter (fun f => !gone.any (fun x => x.frame? = some f.index))).filter
          (fun f => gone'.any (fun x => x.frame? = some f.index))).map (fun (f : FrameRecord) => f.cells.length)).sum =
      s.freeCells + ((s.frames.filter (fun f => (gone ++ gone').any (fun x => x.frame? = some f.index))).map
        (fun (f : FrameRecord) => f.cells.length)).sum := by
    rw [Nat.add_assoc, sum_cells_filter_or]
    simp only [List.any_append]
  have twice : ∀ x k k' : Nat, min 65535 (min 65535 (x + k) + k') = min 65535 (x + (k + k')) := by omega
  have once := State.updBinding_updBinding
    (s := { s with
      frames := s.frames.filter (fun f => !(gone ++ gone').any (fun x => x.frame? = some f.index))
      freeCells := s.freeCells + ((s.frames.filter (fun f => (gone ++ gone').any (fun x => x.frame? = some f.index))).map
        (fun (f : FrameRecord) => f.cells.length)).sum }) (b := b)
    (fun q =>
      { q with
        asm := { q.asm with slots := slots }
        counters := { q.counters with
          incomplete := min 65535 (q.counters.incomplete + i), unseen := min 65535 (q.counters.unseen + n) } })
    (fun q =>
      { q with
        asm := { q.asm with slots := slots' }
        counters := { q.counters with
          incomplete := min 65535 (q.counters.incomplete + i'), unseen := min 65535 (q.counters.unseen + n') } })
  rw [← frames, ← cells] at once
  refine once.trans ?_
  rw [frames, cells]
  unfold State.slotsClosed
  refine State.updBinding_congr ?_
  simp only [twice]

/-! ### One slot (R54, R55, R67) -/

/-- What a binding needs to count closures: it is active, and the counts are within their bounds. -/
structure State.Closes (s : State) (b : BindingNo) : Prop where
  active : (s.binding b).state.active = true
  incomplete : (s.binding b).counters.incomplete ≤ 65535
  unseen : (s.binding b).counters.unseen ≤ 65535

/-- The records stand in increasing order of index, so that a record is found under its index alone. -/
def State.sorted (s : State) : Prop := s.frames.Pairwise (fun f g => f.index < g.index)

theorem State.Closes.of_bounded (active : (s.binding b).state.active = true) (bounded : (s.binding b).countersBounded) :
    s.Closes b :=
  ⟨active, bounded _ (by simp [BindingCounters.list]), bounded _ (by simp [BindingCounters.list])⟩

theorem State.Closes.slotsClosed (h : s.Closes b) (gone slots : List Slot) (i n : Nat) :
    (s.slotsClosed b gone slots i n).Closes b := by
  refine ⟨?_, ?_, ?_⟩
  · rw [State.slotsClosed_binding]; exact h.active
  · rw [State.slotsClosed_binding]; exact min_le_left _ _
  · rw [State.slotsClosed_binding]; exact min_le_left _ _

theorem filter_index_eq {l : List FrameRecord} (sorted : l.Pairwise (fun f g => f.index < g.index)) {f : FrameRecord}
    (mem : f ∈ l) : l.filter (fun x => x.index = f.index) = [f] := by
  induction l with
  | nil => simp at mem
  | cons x xs ih =>
    obtain ⟨above, rest⟩ := List.pairwise_cons.mp sorted
    obtain rfl | later := List.mem_cons.mp mem
    · have others : xs.filter (fun y => decide (y.index = f.index)) = [] := by
        refine List.filter_eq_nil_iff.mpr fun y hy => ?_
        have := above y hy
        simp only [decide_eq_true_eq]
        omega
      rw [List.filter_cons_of_pos (by simp), others]
    · have apart : x.index ≠ f.index := Nat.ne_of_lt (above f later)
      rw [List.filter_cons_of_neg (by simpa using apart), ih rest later]

/-- The frame of a FILLING slot is freed; any other slot has none. -/
def State.freedSlot (s : State) : Slot → State
  | .filling index _ => s.freeFrame index
  | _ => s

theorem State.freedSlot_eq {x : Slot} (single : s.sorted ∨ x.frame? = none) :
    s.freedSlot x = { s with
      frames := s.frames.filter (fun f => !([x].any (fun y => y.frame? = some f.index)))
      freeCells := s.freeCells + ((s.frames.filter (fun f => [x].any (fun y => y.frame? = some f.index))).map
        (fun (f : FrameRecord) => f.cells.length)).sum } := by
  cases x with
  | filling index d =>
    have test : ∀ f : FrameRecord, ([Slot.filling index d].any fun y => decide (y.frame? = some f.index)) =
        decide (f.index = index) := by
      intro f
      rw [List.any_cons, List.any_nil, Bool.or_false]
      exact decide_eq_decide.mpr ⟨fun h => (Option.some.inj h).symm, fun h => congrArg some h.symm⟩
    simp only [test]
    show s.freeFrame index = _
    cases here : s.frame? index with
    | none =>
      have absent : ∀ f ∈ s.frames, f.index ≠ index := fun f hf => by simpa using List.find?_eq_none.mp here f hf
      have kept : s.frames.filter (fun f => !decide (f.index = index)) = s.frames :=
        List.filter_eq_self.mpr fun f hf => by simpa using absent f hf
      have freed : s.frames.filter (fun f => decide (f.index = index)) = [] :=
        List.filter_eq_nil_iff.mpr fun f hf => by simpa using absent f hf
      have ignored : s.freeFrame index = s := by
        unfold State.freeFrame
        rw [here]
      rw [kept, freed, ignored]
      rfl
    | some f =>
      have named : f.index = index := FrameRecord.index_of_frame? here
      have freed := filter_index_eq (single.resolve_right (by simp [Slot.frame?])) (List.mem_of_find?_eq_some here)
      rw [State.freeFrame_of_some here, State.freed, ← named, freed]
      simp [decide_not]
  | free d => simp [State.freedSlot, Slot.frame?]
  | skipped k d => simp [State.freedSlot, Slot.frame?]
  | closed o => simp [State.freedSlot, Slot.frame?]

theorem State.countClosure_eq (active : (s.binding b).state.active = true)
    (incomplete : (s.binding b).counters.incomplete ≤ 65535) (unseen : (s.binding b).counters.unseen ≤ 65535) {o : Closure}
    (ends : o ≠ .complete) :
    s.countClosure b o = s.updBinding b (fun q => { q with counters := { q.counters with
      incomplete := min 65535 (q.counters.incomplete + if o = .incomplete then 1 else 0)
      unseen := min 65535 (q.counters.unseen + if o = .unseen then 1 else 0) } }) := by
  have one_more : min 65535 ((s.binding b).counters.incomplete + 0) = (s.binding b).counters.incomplete := min_eq_right incomplete
  have one_unseen : min 65535 ((s.binding b).counters.unseen + 0) = (s.binding b).counters.unseen := min_eq_right unseen
  cases o with
  | complete => exact absurd rfl ends
  | incomplete =>
    refine (State.count_of_active active .incomplete 1).trans (State.updBinding_congr ?_)
    simp only [if_pos, reduceCtorEq, if_false, one_unseen]
    rfl
  | unseen =>
    refine (State.count_of_active active .unseen 1).trans (State.updBinding_congr ?_)
    simp only [if_pos, reduceCtorEq, if_false, one_more]
    rfl
  | skipped k =>
    refine (State.updBinding_of_fixed (s := s) ?_).symm
    simp only [reduceCtorEq, if_false, one_more, one_unseen]

theorem State.closeSlot_eq {i : Nat} {x : Slot} (laws : s.Closes b) (single : s.sorted ∨ x.frame? = none)
    (here : s.slot? b i = some x) {o : Closure}
    (ends : o ≠ .complete) :
    s.closeSlot b i o = s.slotsClosed b [x] ((s.binding b).asm.slots.set i (.closed o)) (if o = .incomplete then 1 else 0)
      (if o = .unseen then 1 else 0) := by
  have freed : s.closeSlot b i o = ((s.freedSlot x).setSlot b i (.closed o)).countClosure b o := by
    unfold State.closeSlot
    rw [here]
    cases x <;> rfl
  have set : ∀ v : State, v.binding b = s.binding b → (v.setSlot b i (.closed o)).countClosure b o =
      v.updBinding b (fun q =>
        { q with
          asm := { q.asm with slots := (s.binding b).asm.slots.set i (.closed o) }
          counters := { q.counters with
            incomplete := min 65535 (q.counters.incomplete + if o = .incomplete then 1 else 0)
            unseen := min 65535 (q.counters.unseen + if o = .unseen then 1 else 0) } }) := by
    intro v same
    have read : (v.setSlot b i (.closed o)).binding b =
        { s.binding b with asm := { (s.binding b).asm with slots := (s.binding b).asm.slots.set i (.closed o) } } := by
      rw [State.setSlot, State.updAsm, State.binding_updBinding, if_pos rfl, same]
    rw [State.countClosure_eq (by rw [read]; exact laws.active) (by rw [read]; exact laws.incomplete)
      (by rw [read]; exact laws.unseen) ends, State.setSlot, State.updAsm, State.updBinding_updBinding]
    refine State.updBinding_congr ?_
    rw [same]
  rw [freed, State.freedSlot_eq single]
  exact set _ rfl

/-! ### The slots of a window one after another -/

theorem State.slotsClosed_nil (laws : s.Closes b) : s.slotsClosed b [] (s.binding b).asm.slots 0 0 = s := by
  have frames : s.frames.filter (fun _ => !false) = s.frames := List.filter_eq_self.mpr fun _ _ => rfl
  have cells : s.frames.filter (fun _ => false) = [] := List.filter_eq_nil_iff.mpr fun _ _ => by simp
  unfold State.slotsClosed
  simp only [List.any_nil, frames, cells]
  refine State.updBinding_of_fixed (s := s) ?_
  simp only [Nat.add_zero, min_eq_right laws.incomplete, min_eq_right laws.unseen]

theorem State.foldl_closeSlot (cs : List (Nat × Closure)) (xs : List Slot) (laws : s.Closes b)
    (single : s.sorted ∨ ∀ x ∈ xs, x.frame? = none) (distinct : (cs.map Prod.fst).Nodup)
    (here : cs.map (fun c => s.slot? b c.1) = xs.map some)
    (ends : ∀ c ∈ cs, c.2 ≠ .complete) :
    cs.foldl (fun s c => s.closeSlot b c.1 c.2) s =
      s.slotsClosed b xs (cs.foldl (fun l c => l.set c.1 (.closed c.2)) (s.binding b).asm.slots)
        (cs.filter (fun c => c.2 = .incomplete)).length (cs.filter (fun c => c.2 = .unseen)).length := by
  induction cs generalizing s xs with
  | nil =>
    obtain rfl : xs = [] := by simpa using here.symm
    exact (State.slotsClosed_nil laws).symm
  | cons c cs ih =>
    obtain ⟨x, xs, rfl⟩ : ∃ x rest, xs = x :: rest := by
      cases xs with
      | nil => simp at here
      | cons x rest => exact ⟨x, rest, rfl⟩
    rw [List.map_cons, List.map_cons, List.cons.injEq] at here
    obtain ⟨first, others⟩ := here
    obtain ⟨fresh, distinct⟩ := List.nodup_cons.mp distinct
    have step := State.closeSlot_eq laws (single.imp_right fun h => h x List.mem_cons_self) first (ends c List.mem_cons_self)
    have rest := ih (s := s.slotsClosed b [x] ((s.binding b).asm.slots.set c.1 (.closed c.2))
      (if c.2 = .incomplete then 1 else 0) (if c.2 = .unseen then 1 else 0)) xs (laws.slotsClosed _ _ _ _)
      (single.imp (fun h => h.filter _) fun h y hy => h y (List.mem_cons_of_mem x hy)) distinct
      (by
        rw [← others]
        refine List.map_congr_left fun d hd => ?_
        have apart : c.1 ≠ d.1 := fun same => fresh (same ▸ List.mem_map_of_mem hd)
        rw [State.slot?, State.slotsClosed_binding, State.slot?, List.getElem?_set_ne apart])
      (fun d hd => ends d (List.mem_cons_of_mem _ hd))
    have counted : ∀ o : Closure, (if c.2 = o then 1 else 0) + (cs.filter (fun d => d.2 = o)).length =
        ((c :: cs).filter (fun d => d.2 = o)).length := by
      intro o
      rw [List.filter_cons]
      split
      · next same => rw [if_pos (by simpa using same), List.length_cons, Nat.add_comm]
      · next other => rw [if_neg (by simpa using other), Nat.zero_add]
    rw [List.foldl_cons, step, rest, State.slotsClosed_slotsClosed, counted, counted, State.slotsClosed_binding,
      List.singleton_append]
    rfl

theorem State.count_zero (laws : s.Closes b) : s.count b .unseen 0 = s := by
  refine (State.count_of_active laws.active .unseen 0).trans (State.updBinding_of_fixed ?_)
  have kept : min 65535 ((s.binding b).counters.unseen + 0) = (s.binding b).counters.unseen := min_eq_right laws.unseen
  exact congrArg (fun n => { s.binding b with counters := { (s.binding b).counters with unseen := n } }) kept

/-- The closures of an event as one change (R55, R56): the slots close, the outcomes are taken, and the gaps handed on. -/
theorem State.closeSlots_eq (cs : List (Nat × Closure)) (xs : List Slot) (laws : s.Closes b)
    (single : s.sorted ∨ ∀ x ∈ xs, x.frame? = none) (distinct : (cs.map Prod.fst).Nodup)
    (here : cs.map (fun c => s.slot? b c.1) = xs.map some)
    (ends : ∀ c ∈ cs, c.2 ≠ .complete) :
    s.closeSlots b cs [] =
      ((s.slotsClosed b xs (cs.foldl (fun l c => l.set c.1 (.closed c.2)) (s.binding b).asm.slots)
        (cs.filter (fun c => c.2 = .incomplete)).length (cs.filter (fun c => c.2 = .unseen)).length).outcomesTaken b
          (cs.map Prod.snd)).handGaps b
        ((cs.filter (fun c => c.2.isGap)).map (fun c => ((s.binding b).baseDelta + c.1, (s.binding b).baseDelta + c.1 + 1))) := by
  have closed := State.foldl_closeSlot cs xs laws single distinct here ends
  have counted := State.count_zero (laws.slotsClosed (b := b) xs (cs.foldl (fun l c => l.set c.1 (.closed c.2)) (s.binding b).asm.slots)
        (cs.filter (fun c => c.2 = .incomplete)).length (cs.filter (fun c => c.2 = .unseen)).length)
  unfold State.closeSlots
  dsimp only
  rw [closed, List.map_nil, List.sum_nil, counted, List.append_nil]
  unfold State.outcomesTaken
  rw [List.foldl_map]
  rfl

/-! ### The closures that a test gives -/

/-- The slots of a list, numbered from `k` on, that a test closes. -/
def closingSlots (test : Nat → Slot → Option Closure) (k : Nat) (xs : List Slot) : List Slot :=
  ((xs.zipIdx k).filter (fun x => (test x.2 x.1).isSome)).map Prod.fst

/-- A slot after a test has closed it or left it. -/
def closedBy (test : Nat → Slot → Option Closure) (i : Nat) (x : Slot) : Slot :=
  match test i x with
  | some o => .closed o
  | none => x

theorem closuresOf_eq (test : Nat → Slot → Option Closure) (k : Nat) (xs : List Slot) :
    closuresOf test k xs = (xs.zipIdx k).filterMap (fun x => (test x.2 x.1).map (fun o => (x.2, o))) := by
  induction xs generalizing k with
  | nil => rfl
  | cons x xs ih =>
    unfold closuresOf
    rw [List.zipIdx_cons, List.filterMap_cons]
    cases test k x with
    | none => exact ih (k + 1)
    | some o => exact congrArg _ (ih (k + 1))

theorem closuresOf_snd (test : Nat → Slot → Option Closure) (k : Nat) (xs : List Slot) :
    (closuresOf test k xs).map Prod.snd = (xs.zipIdx k).filterMap (fun x => test x.2 x.1) := by
  rw [closuresOf_eq, List.map_filterMap]
  refine List.filterMap_congr fun x _ => ?_
  cases test x.2 x.1 <;> rfl

theorem le_of_mem_closuresOf {test : Nat → Slot → Option Closure} {k : Nat} {xs : List Slot} {c : Nat × Closure}
    (h : c ∈ closuresOf test k xs) : k ≤ c.1 := by
  rw [closuresOf_eq, List.mem_filterMap] at h
  obtain ⟨x, mem, found⟩ := h
  have above : k ≤ x.2 := List.le_snd_of_mem_zipIdx mem
  cases hx : test x.2 x.1 with
  | none => simp [hx] at found
  | some o =>
    rw [hx] at found
    exact (Option.some.inj found) ▸ above

theorem closuresOf_nodup (test : Nat → Slot → Option Closure) (k : Nat) (xs : List Slot) :
    ((closuresOf test k xs).map Prod.fst).Nodup := by
  induction xs generalizing k with
  | nil => exact List.nodup_nil
  | cons x xs ih =>
    unfold closuresOf
    cases test k x with
    | none => exact ih (k + 1)
    | some o =>
      refine List.nodup_cons.mpr ⟨fun mem => ?_, ih (k + 1)⟩
      obtain ⟨c, later, same⟩ := List.mem_map.mp mem
      have := le_of_mem_closuresOf later
      dsimp only at same
      omega

theorem closuresOf_slots (test : Nat → Slot → Option Closure) (pre xs : List Slot) :
    (closuresOf test pre.length xs).map (fun c => (pre ++ xs)[c.1]?) = (closingSlots test pre.length xs).map some := by
  induction xs generalizing pre with
  | nil => rfl
  | cons x xs ih =>
    have rest := ih (pre ++ [x])
    rw [List.length_append, List.length_singleton, List.append_assoc, List.singleton_append] at rest
    unfold closuresOf closingSlots
    rw [List.zipIdx_cons, List.filter_cons]
    cases test pre.length x with
    | none => exact rest
    | some o =>
      rw [List.map_cons, if_pos (by rfl), List.map_cons, List.map_cons, List.getElem?_append_right (Nat.le_refl _)]
      simp only [Nat.sub_self, List.getElem?_cons_zero]
      exact congrArg _ rest

theorem foldl_set_closuresOf (test : Nat → Slot → Option Closure) (pre xs : List Slot) :
    (closuresOf test pre.length xs).foldl (fun l c => l.set c.1 (.closed c.2)) (pre ++ xs) =
      pre ++ xs.mapIdx (fun i x => closedBy test (pre.length + i) x) := by
  induction xs generalizing pre with
  | nil => rfl
  | cons x xs ih =>
    have rest := fun y => ih (pre ++ [y])
    simp only [List.length_append, List.length_singleton, List.append_assoc, List.singleton_append] at rest
    unfold closuresOf
    rw [List.mapIdx_cons]
    have shift : (fun (i : Nat) (x : Slot) => closedBy test (pre.length + (i + 1)) x) =
        fun i x => closedBy test (pre.length + 1 + i) x := by
      funext i x
      rw [Nat.add_assoc, Nat.add_comm 1 i]
    simp only [shift, Nat.add_zero]
    unfold closedBy
    cases found : test pre.length x with
    | none => exact rest x
    | some o =>
      rw [List.foldl_cons, List.set_append_right _ _ (Nat.le_refl _), Nat.sub_self, List.set_cons_zero]
      exact rest (.closed o)

/-- The closures that a test gives, as one change (R55, R56). -/
theorem State.closeSlots_closuresOf (test : Nat → Slot → Option Closure) (laws : s.Closes b)
    (single : s.sorted ∨ ∀ x ∈ closingSlots test 0 (s.binding b).asm.slots, x.frame? = none)
    (ends : ∀ i x o, test i x = some o → o ≠ .complete) :
    s.closeSlots b (closuresOf test 0 (s.binding b).asm.slots) [] =
      ((s.slotsClosed b (closingSlots test 0 (s.binding b).asm.slots) ((s.binding b).asm.slots.mapIdx (closedBy test))
        ((closuresOf test 0 (s.binding b).asm.slots).filter (fun c => c.2 = .incomplete)).length
        ((closuresOf test 0 (s.binding b).asm.slots).filter (fun c => c.2 = .unseen)).length).outcomesTaken b
          ((closuresOf test 0 (s.binding b).asm.slots).map Prod.snd)).handGaps b
        (((closuresOf test 0 (s.binding b).asm.slots).filter (fun c => c.2.isGap)).map
          (fun c => ((s.binding b).baseDelta + c.1, (s.binding b).baseDelta + c.1 + 1))) := by
  have all_end : ∀ c ∈ closuresOf test 0 (s.binding b).asm.slots, c.2 ≠ .complete := by
    intro c hc
    rw [closuresOf_eq, List.mem_filterMap] at hc
    obtain ⟨x, -, found⟩ := hc
    cases hx : test x.2 x.1 with
    | none => simp [hx] at found
    | some o =>
      rw [hx] at found
      exact (Option.some.inj found) ▸ ends _ _ _ hx
  have windows := foldl_set_closuresOf test [] (s.binding b).asm.slots
  simp only [List.length_nil, List.nil_append, Nat.zero_add] at windows
  rw [State.closeSlots_eq _ (closingSlots test 0 (s.binding b).asm.slots) laws single (closuresOf_nodup test 0 _)
    (closuresOf_slots test [] _) all_end, windows]

end Sys2Proof.Machine
end

section
/-! The deadline of a slot (R55, R56). -/

namespace Sys2Proof.Machine

variable {s : State} {b : BindingNo}

theorem Closure.isGap_iff (o : Closure) : o.isGap = true ↔ o ∈ gapOutcomes := by
  cases o with
  | skipped k => cases k <;> simp [Closure.isGap, gapOutcomes]
  | complete | incomplete | unseen => simp [Closure.isGap, gapOutcomes]

theorem State.slotsClosed_frame?_none {gone : List Slot} {x : Slot} (mem : x ∈ gone) {f : Nat} (frame : x.frame? = some f)
    (slots : List Slot) (i n : Nat) : (s.slotsClosed b gone slots i n).frame? f = none := by
  refine List.find?_eq_none.mpr fun g hg named => ?_
  have kept := (List.mem_filter.mp hg).2
  have index : g.index = f := by simpa using named
  have held : gone.any (fun y => y.frame? = some g.index) = true :=
    List.any_eq_true.mpr ⟨x, mem, by rw [index]; exact decide_eq_true frame⟩
  rw [held] at kept
  exact absurd kept (by simp)

theorem State.frees_outcomesTaken (os : List Closure) : s.Frees (s.outcomesTaken b os) :=
  .foldl (fun s o => s.frees_takeClosure b o) os s

/-- The outcomes that a history takes one after another. -/
def Binding.withOutcomes (r : Binding) (os : List Closure) : Binding := os.foldl Binding.withOutcome r

theorem Binding.withOutcome_recording {r q : Binding} (h : r.recording = q.recording) (o : Closure) :
    (r.withOutcome o).recording = (q.withOutcome o).recording := by
  have same := congrArg (fun x : Binding => ({ x with acct := { x.acct with history := lastEight (x.acct.history ++ [o]) } } : Binding)) h
  exact same

theorem State.recordings_outcomesTaken (os : List Closure) :
    ((s.outcomesTaken b os).binding b).recording = ((s.binding b).withOutcomes os).recording := by
  have general : ∀ (q : Binding), (s.binding b).recording = q.recording →
      ((s.outcomesTaken b os).binding b).recording = (q.withOutcomes os).recording := by
    induction os generalizing s with
    | nil => exact fun q h => h
    | cons o os ih =>
      intro q h
      refine ih (s := s.takeClosure b o) (q.withOutcome o) ?_
      refine (congrFun (State.recordings_takeClosure o) b).trans ?_
      unfold State.recordings
      rw [State.binding_updBinding, if_pos rfl]
      exact Binding.withOutcome_recording h o
  exact general _ rfl

theorem Binding.withOutcomes_state (r : Binding) (os : List Closure) : (r.withOutcomes os).state = r.state := by
  induction os generalizing r with
  | nil => rfl
  | cons o os ih => exact (ih _).trans rfl

theorem Binding.withOutcomes_asm (r : Binding) (os : List Closure) : (r.withOutcomes os).asm = r.asm := by
  induction os generalizing r with
  | nil => rfl
  | cons o os ih => exact (ih _).trans rfl

theorem Binding.withOutcomes_terms (r : Binding) (os : List Closure) : (r.withOutcomes os).terms = r.terms := by
  induction os generalizing r with
  | nil => rfl
  | cons o os ih => exact (ih _).trans rfl

theorem Binding.withOutcomes_effEnd (r : Binding) (os : List Closure) : (r.withOutcomes os).effEnd = r.effEnd := by
  induction os generalizing r with
  | nil => rfl
  | cons o os ih => exact (ih _).trans rfl

section
variable {r q : Binding} (h : r.recording = q.recording)
include h

theorem Binding.terms_of_recording : r.terms = q.terms := (congrArg Binding.terms h :)

theorem Binding.effEnd_of_recording : r.effEnd = q.effEnd := (congrArg Binding.effEnd h :)

theorem Binding.reason_of_recording : r.reason = q.reason := (congrArg Binding.reason h :)

theorem Binding.stopPos_of_recording : r.stopPos = q.stopPos := (congrArg Binding.stopPos h :)

theorem Binding.unseen_of_recording : r.counters.unseen = q.counters.unseen := (congrArg (fun x => x.counters.unseen) h :)

end

theorem State.slotDeadline_of_due {count n : FrameCount} {x : Slot} {d : Time} {o : Closure}
    (gathering : (s.binding b).state = .recording ∨ (s.binding b).state = .finishing)
    (base : (s.binding b).asm.base = some n) (here : (s.binding b).asm.slots[(count - n).toNat]? = some x)
    (deadline : x.deadline? = some d) (outcome : x.outcome = some o) (due : reached s.now d = true) :
    s.slotDeadline b count = (s.closeSlots b [((count - n).toNat, o)] []).advanceBase b := by
  unfold State.slotDeadline State.slot?
  dsimp only
  rw [base]
  dsimp only
  rw [here]
  dsimp only
  rw [deadline, outcome]
  exact (if_pos gathering).trans (if_pos due)

/-- A slot that closes alone (R55, R56). -/
theorem State.closeSlots_single {i : Nat} {x : Slot} {o : Closure} (laws : s.Closes b)
    (single : s.sorted ∨ x.frame? = none) (here : (s.binding b).asm.slots[i]? = some x) (ends : o ≠ .complete) :
    s.closeSlots b [(i, o)] [] =
      ((s.slotsClosed b [x] ((s.binding b).asm.slots.set i (.closed o)) (if o = .incomplete then 1 else 0)
        (if o = .unseen then 1 else 0)).outcomesTaken b [o]).handGaps b
        (if o ∈ gapOutcomes then [((s.binding b).baseDelta + i, (s.binding b).baseDelta + i + 1)] else []) := by
  have one : ∀ o' : Closure, ([(i, o)].filter (fun c : Nat × Closure => c.2 = o')).length = if o = o' then 1 else 0 := by
    intro o'
    by_cases same : o = o' <;> simp [same]
  have gaps : ([(i, o)].filter (fun c : Nat × Closure => c.2.isGap)).map
        (fun c => ((s.binding b).baseDelta + c.1, (s.binding b).baseDelta + c.1 + 1)) =
      if o ∈ gapOutcomes then [((s.binding b).baseDelta + i, (s.binding b).baseDelta + i + 1)] else [] := by
    by_cases gap : o ∈ gapOutcomes
    · simp [gap, (Closure.isGap_iff o).mpr gap]
    · simp [gap, mt (Closure.isGap_iff o).mp gap]
  rw [State.closeSlots_eq [(i, o)] [x] laws (single.imp_right (by simpa using ·)) (List.nodup_singleton _)
    (congrArg (fun y => [y]) here) (by simpa using ends), one,
    one, gaps]
  rfl

/-- Settles O14: the closure of one slot, its outcome taken before its gap is handed on, and the base after it. -/
theorem slotDeadlineCloses : Obligations.SlotDeadlineCloses := by
  intro t b count n s w r i at' lo hi x d o hr gathering base eight hi' here kind due bounded whole hat hlo hhi hw
  subst hr hi' hat
  have active : (s.binding b).state.active = true := BindingState.active_of_recording_or_finishing gathering
  obtain ⟨deadline, outcome, ends⟩ : x.deadline? = some d ∧ x.outcome = some o ∧ o ≠ .complete := by
    rcases kind with ⟨rfl, rfl⟩ | ⟨⟨f, rfl⟩, rfl⟩ | ⟨k, rfl, rfl⟩
    · exact ⟨rfl, rfl, by simp⟩
    · exact ⟨rfl, rfl, by simp⟩
    · exact ⟨rfl, rfl, by simp⟩
  have laws : (s.atTime t).Closes b := State.Closes.of_bounded (s := s.atTime t) active bounded
  have arm : exec (.slotDeadline t b count) s = .next ((s.atTime t).slotDeadline b count) := rfl
  have fired : (s.atTime t).slotDeadline b count =
      ((s.atTime t).closeSlots b [((count - n).toNat, o)] []).advanceBase b :=
    State.slotDeadline_of_due (s := s.atTime t) gathering base here deadline outcome ((reached_iff _ _).mpr due)
  have recorded : (w.binding b).recording = (({ s.binding b with
      asm := { (s.binding b).asm with slots := (s.binding b).asm.slots.set (count - n).toNat (.closed o) }
      counters := { (s.binding b).counters with
        incomplete := min 65535 ((s.binding b).counters.incomplete + if o = .incomplete then 1 else 0)
        unseen := min 65535 ((s.binding b).counters.unseen + if o = .unseen then 1 else 0) } } : Binding).withOutcomes
      [o]).recording := by
    rw [hw, State.recordings_outcomesTaken, State.slotsClosed_binding]
    rfl
  have handed : (s.atTime t).closeSlots b [((count - n).toNat, o)] [] = if o ∈ gapOutcomes then w.ownGap b lo hi else w := by
    rw [State.closeSlots_single (s := s.atTime t) laws (.inl whole.2.2) here ends, State.atTime_binding, ← hw]
    split
    · rw [State.handGaps_single, Binding.terms_of_recording recorded, Binding.effEnd_of_recording recorded, hlo, hhi,
        ← Binding.baseDelta_of_base base]
      rfl
    · rfl
  have left : ((if o ∈ gapOutcomes then w.ownGap b lo hi else w).binding b).recording = (w.binding b).recording := by
    split
    · exact congrFun (State.recordings_ownGap w b lo hi) b
    · rfl
  have frees : ((s.atTime t).slotsClosed b [x] ((s.binding b).asm.slots.set (count - n).toNat (.closed o))
      (if o = Closure.incomplete then 1 else 0)
      (if o = Closure.unseen then 1 else 0)).Frees (if o ∈ gapOutcomes then w.ownGap b lo hi else w) := by
    have gap : w.Frees (if o ∈ gapOutcomes then w.ownGap b lo hi else w) := by
      split
      · exact State.frees_ownGap w b lo hi
      · exact .refl w
    exact (hw ▸ State.frees_outcomesTaken [o]).trans gap
  generalize (if o ∈ gapOutcomes then w.ownGap b lo hi else w) = v at handed left frees ⊢
  have recording := left.trans recorded
  have asm := (Binding.asm_of_recording recording).trans (Binding.withOutcomes_asm _ _)
  have state := (Binding.state_of_recording recording).trans (Binding.withOutcomes_state _ _)
  have history := Binding.history_of_recording recording
  have closed : (s.atTime t).slotDeadline b count = v.updBinding b (fun q =>
      { q with asm := if (s.binding b).state = .recording then q.asm.advanced else q.asm }) := by
    rw [fired, handed, State.advanceBase_eq (by rw [asm]; simpa using eight), state]
  refine ⟨_, arm, closed, State.worksOn_slotDeadline _ b count, ?_⟩
  rw [closed, State.binding_updBinding, if_pos rfl]
  dsimp only
  refine ⟨state, by rw [asm], history, fun f filling => ?_⟩
  refine (frees.trans (State.frees_updBinding v b _)).frame?_none ?_
  exact State.slotsClosed_frame?_none (List.mem_singleton_self x) (by rw [filling]; rfl) _ _ _

end Sys2Proof.Machine
end

section
/-! Entry to FINISHING (R17): every FREE slot closes UNSEEN. -/

namespace Sys2Proof.Machine

variable {s : State} {b : BindingNo}

/-! ### What closures leave of a binding -/

theorem State.closeSlot_binding (s : State) (b : BindingNo) (i : Nat) (o : Closure) : ∃ counts, (s.closeSlot b i o).binding b =
    { s.binding b with
      asm := { (s.binding b).asm with slots := (s.binding b).asm.slots.set i (.closed o) }, counters := counts } := by
  have counted : ∀ (v : State) (k : BindingCounter), ∃ counts, (v.count b k).binding b = { v.binding b with counters := counts } := by
    intro v k
    by_cases active : (v.binding b).state.active = true
    · rw [State.count_of_active active, State.binding_updBinding, if_pos rfl]
      exact ⟨_, rfl⟩
    · have uncounted : v.count b k = v := if_neg active
      rw [uncounted]
      exact ⟨_, rfl⟩
  have set : ∀ v : State, v.bindings = s.bindings → (v.setSlot b i (.closed o)).binding b =
      { s.binding b with asm := { (s.binding b).asm with slots := (s.binding b).asm.slots.set i (.closed o) } } := by
    intro v same
    have read : v.binding b = s.binding b := congrArg (fun l : Vector Binding 16 => l[b]) same
    rw [State.setSlot, State.updAsm, State.binding_updBinding, if_pos rfl, read]
  have closed : ∀ v : State, v.bindings = s.bindings → ∃ counts, ((v.setSlot b i (.closed o)).countClosure b o).binding b =
      { s.binding b with
        asm := { (s.binding b).asm with slots := (s.binding b).asm.slots.set i (.closed o) }, counters := counts } := by
    intro v same
    cases o with
    | skipped k => exact ⟨_, set v same⟩
    | complete => exact (counted _ .complete).imp fun c h => h.trans (by rw [set v same])
    | incomplete => exact (counted _ .incomplete).imp fun c h => h.trans (by rw [set v same])
    | unseen => exact (counted _ .unseen).imp fun c h => h.trans (by rw [set v same])
  unfold State.closeSlot
  dsimp only
  split
  · exact closed _ (State.freeFrame_bindings s _)
  · exact closed _ rfl

theorem State.foldl_closeSlot_binding (cs : List (Nat × Closure)) : ∃ counts,
    (cs.foldl (fun s c => s.closeSlot b c.1 c.2) s).binding b =
      { s.binding b with
        asm := { (s.binding b).asm with slots := cs.foldl (fun l c => l.set c.1 (.closed c.2)) (s.binding b).asm.slots }
        counters := counts } := by
  induction cs generalizing s with
  | nil => exact ⟨_, rfl⟩
  | cons c cs ih =>
    obtain ⟨counts, closed⟩ := s.closeSlot_binding b c.1 c.2
    obtain ⟨counts', rest⟩ := ih (s := s.closeSlot b c.1 c.2)
    exact ⟨counts', rest.trans (by rw [closed]; rfl)⟩

theorem Binding.withOutcomes_recording {r q : Binding} (h : r.recording = q.recording) (os : List Closure) :
    (r.withOutcomes os).recording = (q.withOutcomes os).recording := by
  induction os generalizing r q with
  | nil => exact h
  | cons o os ih => exact ih (Binding.withOutcome_recording h o)

theorem Binding.withOutcomes_counters (r : Binding) (os : List Closure) : (r.withOutcomes os).counters = r.counters := by
  induction os generalizing r with
  | nil => rfl
  | cons o os ih => exact (ih _).trans rfl

theorem Binding.withOutcomes_reason (r : Binding) (os : List Closure) : (r.withOutcomes os).reason = r.reason := by
  induction os generalizing r with
  | nil => rfl
  | cons o os ih => exact (ih _).trans rfl

theorem Binding.withOutcomes_stopPos (r : Binding) (os : List Closure) : (r.withOutcomes os).stopPos = r.stopPos := by
  induction os generalizing r with
  | nil => rfl
  | cons o os ih => exact (ih _).trans rfl

/-- A binding whose closures are counted: no closure of the event stands outside the window. -/
theorem State.closeSlots_recording_of (cs : List (Nat × Closure)) {r : Binding}
    (counted : ((cs.foldl (fun s c => s.closeSlot b c.1 c.2) s).count b .unseen 0).binding b = r) :
    ((s.closeSlots b cs []).binding b).recording = (r.withOutcomes (cs.map Prod.snd)).recording := by
  have taken : s.closeSlots b cs [] =
      (((cs.foldl (fun s c => s.closeSlot b c.1 c.2) s).count b .unseen 0).outcomesTaken b (cs.map Prod.snd)).handGaps b
        ((cs.filter (fun c => c.2.isGap)).map (fun c => ((s.binding b).baseDelta + c.1, (s.binding b).baseDelta + c.1 + 1)) ++
          []) := by
    unfold State.closeSlots State.outcomesTaken
    rw [List.foldl_map]
    rfl
  rw [taken]
  refine (congrFun (State.recordings_handGaps _ b _) b).trans ?_
  refine (State.recordings_outcomesTaken (cs.map Prod.snd)).trans ?_
  rw [counted]

/-- The record after the closures of an event, but for its counters. -/
theorem State.closeSlots_recording (cs : List (Nat × Closure)) : ∃ counts,
    ((s.closeSlots b cs []).binding b).recording =
      (({ s.binding b with
        asm := { (s.binding b).asm with slots := cs.foldl (fun l c => l.set c.1 (.closed c.2)) (s.binding b).asm.slots }
        counters := counts } : Binding).withOutcomes (cs.map Prod.snd)).recording := by
  obtain ⟨counts, closed⟩ := State.foldl_closeSlot_binding (s := s) (b := b) cs
  have counted : ∃ counts', ((cs.foldl (fun s c => s.closeSlot b c.1 c.2) s).count b .unseen 0).binding b =
      { (cs.foldl (fun s c => s.closeSlot b c.1 c.2) s).binding b with counters := counts' } := by
    unfold State.count
    split
    · rw [State.binding_updBinding, if_pos rfl]
      exact ⟨_, rfl⟩
    · exact ⟨_, rfl⟩
  obtain ⟨counts', last⟩ := counted
  exact ⟨counts', State.closeSlots_recording_of cs (last.trans (by rw [closed]))⟩

theorem State.frees_closeSlot (i : Nat) (o : Closure) : s.Frees (s.closeSlot b i o) := by
  have set : ∀ v : State, v.Frees ((v.setSlot b i (.closed o)).countClosure b o) := by
    intro v
    have slot : v.Frees (v.setSlot b i (.closed o)) := .of_eq rfl rfl
    cases o with
    | skipped k => exact slot
    | complete | incomplete | unseen => exact slot.trans (State.frees_count _ b _ 1)
  unfold State.closeSlot
  dsimp only
  split
  · exact (s.frees_freeFrame _).trans (set _)
  · exact set _

theorem State.frees_closeSlots (cs : List (Nat × Closure)) (extra : List (Nat × Nat)) : s.Frees (s.closeSlots b cs extra) := by
  have closed : s.Frees (cs.foldl (fun s c => s.closeSlot b c.1 c.2) s) :=
    .foldl (fun s (c : Nat × Closure) => State.frees_closeSlot c.1 c.2) cs s
  have taken : ∀ v : State, v.Frees (cs.foldl (fun s c => s.takeClosure b c.2) v) :=
    fun v => .foldl (fun s (c : Nat × Closure) => s.frees_takeClosure b c.2) cs v
  exact (((closed.trans (State.frees_count _ b _ _)).trans (taken _)).trans
    (.foldl (fun s o => s.frees_takeClosure b o) _ _)).trans (State.frees_handGaps _ b _)

/-! ### FREE slots close UNSEEN (R17) -/

theorem Slot.outcome_unseen_iff (x : Slot) : x.outcome = some .unseen ↔ ∃ d, x = .free d := by
  cases x <;> simp [Slot.outcome]

theorem freeUnseen_eq (i : Nat) (x : Slot) : freeUnseen i x = if x.outcome = some .unseen then some .unseen else none := by
  cases x <;> simp [freeUnseen, Slot.outcome]

theorem closuresOf_freeUnseen (k : Nat) (xs : List Slot) :
    closuresOf freeUnseen k xs =
      ((xs.zipIdx k).filter (fun x => x.1.outcome = some .unseen)).map (fun x => (x.2, .unseen)) := by
  rw [closuresOf_eq]
  induction xs.zipIdx k with
  | nil => rfl
  | cons x l ih =>
    rw [List.filterMap_cons, List.filter_cons, freeUnseen_eq]
    by_cases free : x.1.outcome = some .unseen
    · simp only [if_pos free, decide_eq_true free, if_true, Option.map_some, List.map_cons]
      exact congrArg _ ih
    · simp only [if_neg free, decide_eq_false free, Option.map_none, Bool.false_eq_true, if_false]
      exact ih

/-- How many slots of a window are FREE. -/
def freeSlots (xs : List Slot) : Nat := (xs.filter (fun x => x.outcome = some .unseen)).length

theorem length_filter_zipIdx (p : Slot → Bool) (xs : List Slot) (k : Nat) :
    ((xs.zipIdx k).filter (fun x => p x.1)).length = (xs.filter p).length := by
  induction xs generalizing k with
  | nil => rfl
  | cons x xs ih =>
    rw [List.zipIdx_cons, List.filter_cons, List.filter_cons]
    by_cases passes : p x = true
    · rw [if_pos passes, if_pos passes, List.length_cons, List.length_cons, ih]
    · rw [if_neg passes, if_neg passes, ih]

theorem length_closuresOf_freeUnseen (xs : List Slot) : (closuresOf freeUnseen 0 xs).length = freeSlots xs := by
  rw [closuresOf_freeUnseen, List.length_map]
  exact length_filter_zipIdx (fun x => decide (x.outcome = some .unseen)) xs 0

theorem closuresOf_freeUnseen_snd (xs : List Slot) :
    (closuresOf freeUnseen 0 xs).map Prod.snd = List.replicate (freeSlots xs) .unseen := by
  rw [← length_closuresOf_freeUnseen, closuresOf_freeUnseen, List.map_map, List.length_map]
  exact List.map_const' ..

theorem mem_closuresOf_freeUnseen {k : Nat} {xs : List Slot} {c : Nat × Closure} (h : c ∈ closuresOf freeUnseen k xs) :
    c.2 = .unseen := by
  rw [closuresOf_freeUnseen] at h
  obtain ⟨x, -, rfl⟩ := List.mem_map.mp h
  rfl

/-- A window whose FREE slots have closed UNSEEN. -/
def unseenClosed (xs : List Slot) : List Slot := xs.map (fun x => if x.outcome = some .unseen then .closed .unseen else x)

theorem foldl_set_freeUnseen (xs : List Slot) :
    (closuresOf freeUnseen 0 xs).foldl (fun l c => l.set c.1 (.closed c.2)) xs = unseenClosed xs := by
  have windows := foldl_set_closuresOf freeUnseen [] xs
  simp only [List.length_nil, List.nil_append, Nat.zero_add] at windows
  rw [windows, unseenClosed]
  refine List.ext_getElem (by simp) fun i h _ => ?_
  simp only [List.getElem_mapIdx, List.getElem_map, closedBy, freeUnseen_eq]
  split
  · next o found =>
    split at found
    · next free => rw [if_pos free, ← Option.some.inj found]
    · simp at found
  · next none_found =>
    split at none_found
    · simp at none_found
    · next other => rw [if_neg other]

/-- Closures of FREE slots as one change: no frame is freed, and each is a gap (R17, R56). -/
theorem State.closeSlots_freeUnseen {n : FrameCount} (laws : s.Closes b) (base : (s.binding b).asm.base = some n) :
    s.closeSlots b (closuresOf freeUnseen 0 (s.binding b).asm.slots) [] =
      ((s.slotsClosed b [] (unseenClosed (s.binding b).asm.slots) 0 (freeSlots (s.binding b).asm.slots)).outcomesTaken b
        (List.replicate (freeSlots (s.binding b).asm.slots) .unseen)).handGaps b
        (rangesOf ((s.binding b).deltaOf n) (fun x => x.outcome = some .unseen) (s.binding b).asm.slots) := by
  have frameless : ∀ x ∈ closingSlots freeUnseen 0 (s.binding b).asm.slots, x.frame? = none := by
    intro x hx
    obtain ⟨y, hy, rfl⟩ := List.mem_map.mp hx
    have free := (List.mem_filter.mp hy).2
    rw [freeUnseen_eq] at free
    split at free
    · next unseen =>
      obtain ⟨d, same⟩ := (Slot.outcome_unseen_iff y.1).mp unseen
      rw [same]
      rfl
    · simp at free
  have eq := State.closeSlots_closuresOf freeUnseen laws (.inr frameless) (by
    intro i x o found
    rw [freeUnseen_eq] at found
    split at found
    · rw [← Option.some.inj found]; simp
    · simp at found)
  have windows : (s.binding b).asm.slots.mapIdx (closedBy freeUnseen) = unseenClosed (s.binding b).asm.slots := by
    have := foldl_set_closuresOf freeUnseen [] (s.binding b).asm.slots
    simp only [List.length_nil, List.nil_append, Nat.zero_add] at this
    rw [← this, foldl_set_freeUnseen]
  have incomplete : (closuresOf freeUnseen 0 (s.binding b).asm.slots).filter (fun c => c.2 = .incomplete) = [] :=
    List.filter_eq_nil_iff.mpr fun c hc => by rw [mem_closuresOf_freeUnseen hc]; simp
  have unseen : (closuresOf freeUnseen 0 (s.binding b).asm.slots).filter (fun c => c.2 = .unseen) =
      closuresOf freeUnseen 0 (s.binding b).asm.slots :=
    List.filter_eq_self.mpr fun c hc => by rw [mem_closuresOf_freeUnseen hc]; rfl
  have gaps : ((closuresOf freeUnseen 0 (s.binding b).asm.slots).filter (fun c => c.2.isGap)).map
        (fun c => ((s.binding b).baseDelta + c.1, (s.binding b).baseDelta + c.1 + 1)) =
      rangesOf ((s.binding b).deltaOf n) (fun x => x.outcome = some .unseen) (s.binding b).asm.slots := by
    have all : (closuresOf freeUnseen 0 (s.binding b).asm.slots).filter (fun c => c.2.isGap) =
        closuresOf freeUnseen 0 (s.binding b).asm.slots :=
      List.filter_eq_self.mpr fun c hc => by rw [mem_closuresOf_freeUnseen hc]; rfl
    rw [all, closuresOf_freeUnseen, List.map_map, Binding.baseDelta_of_base base]
    rfl
  have none_held : s.slotsClosed b (closingSlots freeUnseen 0 (s.binding b).asm.slots) (unseenClosed (s.binding b).asm.slots) 0
        (freeSlots (s.binding b).asm.slots) =
      s.slotsClosed b [] (unseenClosed (s.binding b).asm.slots) 0 (freeSlots (s.binding b).asm.slots) := by
    refine State.slotsClosed_congr (fun f => ?_) _ _ _
    refine List.any_eq_false.mpr fun x hx => ?_
    rw [frameless x hx]
    simp
  rw [eq, windows, incomplete, unseen, gaps, List.length_nil, length_closuresOf_freeUnseen, closuresOf_freeUnseen_snd,
    none_held]

/-! ### Entry to FINISHING -/

/-- A binding put in FINISHING with a reason. -/
def State.finishing (s : State) (b : BindingNo) (reason : Option FinishReason) : State :=
  s.updBinding b (fun q => { q with state := .finishing, reason := reason })

theorem State.finishing_binding (reason : Option FinishReason) :
    (s.finishing b reason).binding b = { s.binding b with state := .finishing, reason := reason } := by
  rw [State.finishing, State.binding_updBinding, if_pos rfl]

theorem State.enterFinishing_of_base {n : FrameCount} (base : (s.binding b).asm.base = some n) (reason : FinishReason) :
    s.enterFinishing b reason =
      (s.finishing b (some reason)).closeSlots b (closuresOf freeUnseen 0 (s.binding b).asm.slots) [] := by
  have read := State.finishing_binding (s := s) (b := b) (some reason)
  unfold State.enterFinishing
  refine (if_pos ?_).trans ?_
  · show ((s.finishing b (some reason)).binding b).asm.base.isSome = true
    rw [read, base]
    rfl
  · show (s.finishing b (some reason)).closeSlots b
      (closuresOf freeUnseen 0 ((s.finishing b (some reason)).binding b).asm.slots) [] = _
    rw [read]

theorem State.enterFinishing_of_no_base (base : (s.binding b).asm.base = none) (reason : FinishReason) :
    s.enterFinishing b reason = s.finishing b (some reason) := by
  have read := State.finishing_binding (s := s) (b := b) (some reason)
  refine if_neg ?_
  show ¬ ((s.finishing b (some reason)).binding b).asm.base.isSome = true
  rw [read, base]
  simp

/-- Entry to FINISHING as one change. -/
theorem State.enterFinishing_eq {n : FrameCount} (laws : s.Closes b)
    (base : (s.binding b).asm.base = some n) (reason : FinishReason) :
    s.enterFinishing b reason =
      (((s.finishing b (some reason)).slotsClosed b [] (unseenClosed (s.binding b).asm.slots) 0
        (freeSlots (s.binding b).asm.slots)).outcomesTaken b
        (List.replicate (freeSlots (s.binding b).asm.slots) .unseen)).handGaps b
        (rangesOf ((s.binding b).deltaOf n) (fun x => x.outcome = some .unseen) (s.binding b).asm.slots) := by
  have read := State.finishing_binding (s := s) (b := b) (some reason)
  have laws' : (s.finishing b (some reason)).Closes b :=
    ⟨by rw [read]; rfl, by rw [read]; exact laws.incomplete, by rw [read]; exact laws.unseen⟩
  have closed := State.closeSlots_freeUnseen (n := n) laws' (by rw [read]; exact base)
  rw [read] at closed
  rw [State.enterFinishing_of_base base, closed]
  rfl

end Sys2Proof.Machine
end

section
/-! The opening of a frame (R47 to R51, R59 to R61): the opening record, the deadlines below it, the tests in their order, and
the end of the recording. -/

namespace Sys2Proof.Machine

variable {s : State} {b : BindingNo}

/-! ### The opening record, the patience and the deadlines (R49, R59 to R61) -/

theorem noteOpening_eq (t : Terms) (count : FrameCount) (now : Time) (a : Assembly) :
    noteOpening t count now a = a.opened t.anchor count now := by
  unfold noteOpening Assembly.opened
  cases opening : a.opening with
  | none => rfl
  | some record =>
    obtain ⟨last, time⟩ := record
    dsimp only
    rw [approach_eq_toNat]
    have clamped : ((clampTo 1000 200000 (now - time).toNat : Nat) : Int) = max 1000 (min 200000 ((now - time).toNat : Int)) := by
      unfold clampTo
      omega
    rw [clamped]
    rfl

theorem Assembly.opened_slots (a : Assembly) (anchor count : FrameCount) (t : Time) : (a.opened anchor count t).slots = a.slots := by
  unfold Assembly.opened
  split <;> rfl

theorem Assembly.opened_base (a : Assembly) (anchor count : FrameCount) (t : Time) : (a.opened anchor count t).base = a.base := by
  unfold Assembly.opened
  split <;> rfl

theorem Binding.patienceNow_eq (r : Binding) : r.patienceNow = r.asm.patience r.terms.patience := rfl

/-- A window whose FREE slots below an index have a deadline. -/
def overtaken (fresh : Time) (i : Nat) (slots : List Slot) : List Slot :=
  slots.mapIdx (fun j x => if j < i ∧ x = .free none then .free (some fresh) else x)

theorem overtake_eq (fresh : Time) (i : Nat) (slots : List Slot) : overtake fresh i slots = overtaken fresh i slots := by
  induction slots generalizing i with
  | nil => cases i <;> rfl
  | cons x xs ih =>
    cases i with
    | zero =>
      have unchanged : overtaken fresh 0 (x :: xs) = x :: xs := by
        refine List.ext_getElem (by simp [overtaken]) fun j _ _ => ?_
        simp only [overtaken, List.getElem_mapIdx, Nat.not_lt_zero, false_and, if_false]
      rw [unchanged]
      rfl
    | succ i =>
      have rest : (fun (j : Nat) (y : Slot) => if j + 1 < i + 1 ∧ y = .free none then Slot.free (some fresh) else y) =
          fun j y => if j < i ∧ y = .free none then .free (some fresh) else y := by
        funext j y
        simp only [Nat.add_lt_add_iff_right]
      unfold overtaken
      rw [List.mapIdx_cons, rest]
      have tail := ih i
      unfold overtaken at tail
      rw [← tail]
      by_cases free : x = .free none
      · rw [if_pos ⟨Nat.succ_pos i, free⟩, free]
        rfl
      · rw [if_neg (fun h => free h.2)]
        cases x with
        | free d =>
          cases d with
          | none => exact absurd rfl free
          | some d => rfl
        | filling | skipped | closed => rfl

/-- The deadline that the frames below an opening one receive (R49, R61). -/
def Binding.freshDeadline (r : Binding) (p : Piece) (now : Time) : Time :=
  now + BitVec.ofNat 48 ((r.asm.opened r.terms.anchor p.count now).patience r.terms.patience)

/-- The assembly state of a binding in which a frame opens, before its slot changes. -/
def Binding.openedAsm (r : Binding) (p : Piece) (now : Time) (i : Nat) : Assembly :=
  { r.asm.opened r.terms.anchor p.count now with slots := overtaken (r.freshDeadline p now) i r.asm.slots }

/-- The state in which a frame opens. -/
def State.opening (s : State) (b : BindingNo) (p : Piece) (i : Nat) (slot : Slot) : State :=
  s.updBinding b (fun q =>
    { q with asm := { (s.binding b).openedAsm p s.now i with
        slots := (overtaken ((s.binding b).freshDeadline p s.now) i (s.binding b).asm.slots).set i slot } })

theorem State.opening_binding (p : Piece) (i : Nat) (slot : Slot) : (s.opening b p i slot).binding b =
    { s.binding b with asm := { (s.binding b).openedAsm p s.now i with
        slots := (overtaken ((s.binding b).freshDeadline p s.now) i (s.binding b).asm.slots).set i slot } } := by
  rw [State.opening, State.binding_updBinding, if_pos rfl]

theorem State.openFrame_eq (i : Nat) (own : Option Time) (p : Piece) :
    s.openFrame b i own p =
      (match s.openingOf b p with
      | .skip reason =>
        let v := (s.opening b p i (.skipped reason (own.getD ((s.binding b).freshDeadline p s.now)))).countSkip b reason
        if reason = .beyond then v.beyondEnd b else v
      | .fill =>
        let f := newFrame (freeIndex 0 s.frames) b (s.binding b).terms p
        State.fillingPiece ({ s.opening b p i (.filling f.index (own.getD ((s.binding b).freshDeadline p s.now))) with
          frames := insertFrame f s.frames }) b i f.index (own.getD ((s.binding b).freshDeadline p s.now)) p) := by
  have noted : (s.updAsm b (noteOpening (s.binding b).terms p.count s.now)).binding b =
      { s.binding b with asm := (s.binding b).asm.opened (s.binding b).terms.anchor p.count s.now } := by
    rw [State.updAsm, State.binding_updBinding, if_pos rfl, noteOpening_eq]
  have fresh : s.now + BitVec.ofNat 48 ((s.updAsm b (noteOpening (s.binding b).terms p.count s.now)).binding b).patienceNow =
      (s.binding b).freshDeadline p s.now := by
    rw [noted]
    rfl
  have opened : ∀ (v : State) (slot : Slot), v = (s.updAsm b (noteOpening (s.binding b).terms p.count s.now)).updAsm b
      (fun a => { a with slots := overtake ((s.binding b).freshDeadline p s.now) i a.slots }) →
      v.setSlot b i slot = s.opening b p i slot := by
    intro v slot hv
    rw [hv, State.setSlot, State.updAsm, State.updAsm, State.updAsm, State.updBinding_updBinding, State.updBinding_updBinding]
    refine State.updBinding_congr ?_
    dsimp only
    rw [noteOpening_eq, overtake_eq, Assembly.opened_slots]
    rfl
  have terms : (((s.updAsm b (noteOpening (s.binding b).terms p.count s.now)).updAsm b
      (fun a => { a with slots := overtake ((s.binding b).freshDeadline p s.now) i a.slots })).binding b).terms =
      (s.binding b).terms := by
    rw [State.updAsm, State.binding_updBinding, if_pos rfl, noted]
  unfold State.openFrame
  dsimp only
  rw [show (s.updAsm b (noteOpening (s.binding b).terms p.count s.now)).now = s.now from rfl, fresh]
  cases s.openingOf b p with
  | skip reason => dsimp only; rw [opened _ _ rfl]
  | fill =>
    dsimp only
    rw [terms]
    have slot := opened _ (.filling (freeIndex 0 s.frames) (own.getD ((s.binding b).freshDeadline p s.now))) rfl
    exact congrArg (fun v : State => State.fillingPiece ({ v with
      frames := insertFrame (newFrame (freeIndex 0 s.frames) b (s.binding b).terms p) s.frames }) b i (freeIndex 0 s.frames)
        (own.getD ((s.binding b).freshDeadline p s.now)) p) slot

/-! ### The tests of a first piece (R47) -/

theorem State.openingOf_eq (p : Piece) :
    s.openingOf b p =
      if startOf (s.binding b).terms ((s.binding b).deltaOf p.count) =
          startOf (s.binding b).terms ((s.binding b).deltaOf p.count + 1) then .skip .drop
      else if (s.binding b).effEnd ≤ startOf (s.binding b).terms ((s.binding b).deltaOf p.count) then .skip .beyond
      else if coveredIn (s.binding b).coord.map (startOf (s.binding b).terms ((s.binding b).deltaOf p.count))
          (min (startOf (s.binding b).terms ((s.binding b).deltaOf p.count + 1)) (s.binding b).effEnd) then .skip .covered
      else if (s.binding b).terms.slotCells < p.pieces.toNat then .skip .oversize
      else if s.quota ≤ s.holding b ∨ Config.frameRecords ≤ s.frames.length ∨ s.freeCells = 0 then .skip .room
      else .fill := by
  unfold State.openingOf classOf
  simp only [show delta (s.binding b).terms.anchor p.count = (s.binding b).deltaOf p.count from rfl]
  split_ifs <;> rfl

theorem State.openingOf_beyond {p : Piece}
    (wide : startOf (s.binding b).terms ((s.binding b).deltaOf p.count) <
      startOf (s.binding b).terms ((s.binding b).deltaOf p.count + 1))
    (above : (s.binding b).effEnd ≤ startOf (s.binding b).terms ((s.binding b).deltaOf p.count)) :
    s.openingOf b p = .skip .beyond := by
  rw [State.openingOf_eq, if_neg (Nat.ne_of_lt wide), if_pos above]

theorem State.openingOf_skips {p : Piece} (ordered : mapOrdered (s.binding b).coord.map) {reason : SkipReason}
    (h : s.skipsAs b p reason) : s.openingOf b p = .skip reason ∧ reason ≠ .beyond := by
  have covered := coveredIn_iff (s.binding b).coord.map ordered (startOf (s.binding b).terms ((s.binding b).deltaOf p.count))
    (min (startOf (s.binding b).terms ((s.binding b).deltaOf p.count + 1)) (s.binding b).effEnd)
  rw [State.openingOf_eq]
  cases reason with
  | drop => exact ⟨if_pos h, by simp⟩
  | beyond => exact h.elim
  | covered =>
    obtain ⟨wide, below, kept⟩ := h
    rw [if_neg (Nat.ne_of_lt wide), if_neg (Nat.not_le.mpr below), if_pos (covered.mpr kept)]
    exact ⟨rfl, by simp⟩
  | oversize =>
    obtain ⟨wide, below, fresh, large⟩ := h
    rw [if_neg (Nat.ne_of_lt wide), if_neg (Nat.not_le.mpr below), if_neg (fresh ∘ covered.mp), if_pos large]
    exact ⟨rfl, by simp⟩
  | room =>
    obtain ⟨wide, below, fresh, small, full⟩ := h
    rw [if_neg (Nat.ne_of_lt wide), if_neg (Nat.not_le.mpr below), if_neg (fresh ∘ covered.mp), if_neg (Nat.not_lt.mpr small)]
    exact ⟨if_pos full, by simp⟩

theorem State.openingOf_gathers {p : Piece} (ordered : mapOrdered (s.binding b).coord.map) (h : s.gathers b p) :
    s.openingOf b p = .fill := by
  have covered := coveredIn_iff (s.binding b).coord.map ordered (startOf (s.binding b).terms ((s.binding b).deltaOf p.count))
    (min (startOf (s.binding b).terms ((s.binding b).deltaOf p.count + 1)) (s.binding b).effEnd)
  obtain ⟨wide, below, fresh, small, room, few, cells⟩ := h
  rw [State.openingOf_eq, if_neg (Nat.ne_of_lt wide), if_neg (Nat.not_le.mpr below), if_neg (fresh ∘ covered.mp),
    if_neg (Nat.not_lt.mpr small)]
  refine if_neg ?_
  rintro (full | many | none)
  · exact absurd room (Nat.not_lt.mpr full)
  · exact absurd few (Nat.not_lt.mpr many)
  · exact cells none

/-! ### A frame that is skipped (R47) -/

theorem State.countSkip_eq (active : (s.binding b).state.active = true) (reason : SkipReason) :
    s.countSkip b reason = s.updBinding b (fun q => { q with counters := q.counters.skipped reason }) := by
  cases reason with
  | drop => exact State.count_of_active active .drops 1
  | oversize => exact State.count_of_active active .oversize 1
  | room => exact State.count_of_active active .roomSkips 1
  | covered | beyond => exact (State.updBinding_of_fixed (s := s) rfl).symm

theorem State.openFrame_of_skips {p : Piece} (ordered : mapOrdered (s.binding b).coord.map)
    (active : (s.binding b).state.active = true) {reason : SkipReason} (h : s.skipsAs b p reason) (i : Nat) (own : Option Time) :
    s.openFrame b i own p = s.updBinding b (fun q =>
      { q with
        asm := { (s.binding b).asm.opened (s.binding b).terms.anchor p.count s.now with
          slots := (overtaken ((s.binding b).freshDeadline p s.now) i (s.binding b).asm.slots).set i
            (.skipped reason (own.getD ((s.binding b).freshDeadline p s.now))) }
        counters := q.counters.skipped reason }) := by
  obtain ⟨skips, short⟩ := State.openingOf_skips ordered h
  rw [State.openFrame_eq, skips]
  refine (if_neg short).trans ?_
  rw [State.countSkip_eq (by rw [State.opening_binding]; exact active), State.opening, State.updBinding_updBinding]
  rfl

/-! ### A frame that is gathered (R50, R51) -/

theorem insertFrame_frame? {f : FrameRecord} {l : List FrameRecord} (fresh : ∀ x ∈ l, x.index ≠ f.index) :
    (insertFrame f l).find? (fun x => x.index = f.index) = some f := by
  cases found : (insertFrame f l).find? (fun x => x.index = f.index) with
  | none => simpa using List.find?_eq_none.mp found f ((insertFrame_perm f l).mem_iff.mpr List.mem_cons_self)
  | some g =>
    have index : g.index = f.index := by simpa using List.find?_some found
    obtain rfl | old := List.mem_cons.mp ((insertFrame_perm f l).mem_iff.mp (List.mem_of_find?_eq_some found))
    · rfl
    · exact absurd index (fresh g old)

theorem perm_replaceFrame {f : FrameRecord} (g : FrameRecord) {l l' : List FrameRecord} (perm : l'.Perm (f :: l))
    (fresh : ∀ x ∈ l, x.index ≠ f.index) :
    (l'.map (fun x => if x.index = f.index then g else x)).Perm (g :: l) := by
  have others : l.map (fun x => if x.index = f.index then g else x) = l := by
    refine (List.map_congr_left fun x hx => if_neg (fresh x hx)).trans (List.map_id _)
  have mapped := perm.map (fun x => if x.index = f.index then g else x)
  rwa [List.map_cons, if_pos rfl, others] at mapped

theorem sorted_replaceFrame {f g : FrameRecord} (index : g.index = f.index) {l : List FrameRecord}
    (sorted : l.Pairwise (fun x y => x.index < y.index)) :
    (l.map (fun x => if x.index = f.index then g else x)).Pairwise (fun x y => x.index < y.index) := by
  have same : ∀ x : FrameRecord, (if x.index = f.index then g else x).index = x.index := by
    intro x
    split
    · next here => rw [index, here]
    · rfl
  refine List.pairwise_map.mpr (sorted.imp fun {x y} h => ?_)
  rw [same, same]
  exact h

theorem State.openFrame_of_gathers {p : Piece} (ordered : mapOrdered (s.binding b).coord.map)
    (active : (s.binding b).state.active = true) (sorted : s.sorted) (h : s.gathers b p) (i : Nat) (own : Option Time) :
    ∃ (f : FrameRecord) (frames : List FrameRecord) (v : State),
      f = (newFrame (freeIndex 0 s.frames) b (s.binding b).terms p).placed (s.binding b).terms.audio p ∧
      s.frame? f.index = none ∧ frames.Perm (f :: s.frames) ∧ frames.Pairwise (fun x y => x.index < y.index) ∧
      v = { s with frames := frames, freeCells := s.freeCells - 1 }.updBinding b (fun q =>
        { q with
          asm := { (s.binding b).asm.opened (s.binding b).terms.anchor p.count s.now with
            slots := (overtaken ((s.binding b).freshDeadline p s.now) i (s.binding b).asm.slots).set i
              (.filling f.index (own.getD ((s.binding b).freshDeadline p s.now))) }
          counters := { q.counters with pieces := oneMore q.counters.pieces } }) ∧
      s.openFrame b i own p = (if p.pieces.toNat = 1 then v.completeFrame b i f.index else v).pressureTest b := by
  have fresh : ∀ x ∈ s.frames, x.index ≠ freeIndex 0 s.frames := freeIndex_fresh sorted fun _ _ => Nat.zero_le _
  have fills := State.openingOf_gathers ordered h
  obtain ⟨-, -, -, -, -, -, cells⟩ := h
  have opened := State.openFrame_eq (s := s) (b := b) i own p
  rw [fills] at opened
  generalize hf : newFrame (freeIndex 0 s.frames) b (s.binding b).terms p = f at opened
  have named : f.index = freeIndex 0 s.frames := by rw [← hf]; rfl
  have empty : f.cells = [] := by rw [← hf]; rfl
  have pieces : f.pieces = p.pieces.toNat := by rw [← hf]; rfl
  have base : f.base = p.base.toNat := by rw [← hf]; rfl
  have audio : f.audio = p.audio.toNat := by rw [← hf]; rfl
  generalize hx : ({ s.opening b p i (.filling f.index (own.getD ((s.binding b).freshDeadline p s.now))) with
    frames := insertFrame f s.frames } : State) = x
  have filled : s.openFrame b i own p =
      x.fillingPiece b i f.index (own.getD ((s.binding b).freshDeadline p s.now)) p := by
    rw [← hx]
    exact opened
  have read : x.binding b = (s.opening b p i (.filling f.index (own.getD ((s.binding b).freshDeadline p s.now)))).binding b := by
    rw [← hx]; rfl
  have here : x.frame? f.index = some f := by
    rw [← hx]
    exact insertFrame_frame? fun y hy => named ▸ fresh y hy
  have room : x.freeCells ≠ 0 := by rw [← hx]; exact cells
  have still_active : (x.binding b).state.active = true := by
    rw [read, State.opening_binding]
    exact active
  have terms : (x.binding b).terms = (s.binding b).terms := by rw [read, State.opening_binding]
  refine ⟨f.placed (s.binding b).terms.audio p,
    (insertFrame f s.frames).map (fun y => if y.index = f.index then f.placed (s.binding b).terms.audio p else y),
    x.withPiece b f p, rfl, ?_, ?_, ?_, ?_, ?_⟩
  · refine List.find?_eq_none.mpr fun y hy => ?_
    have apart := fresh y hy
    simpa [FrameRecord.placed, named] using apart
  · exact perm_replaceFrame _ (insertFrame_perm f s.frames) fun y hy => named ▸ fresh y hy
  · exact sorted_replaceFrame (f := f) (g := f.placed (s.binding b).terms.audio p) rfl
      (insertFrame_sorted sorted fun y hy => named ▸ fresh y hy)
  · rw [State.withPiece, terms, ← hx]
    exact State.updBinding_updBinding
      (s := { s with
        frames := (insertFrame f s.frames).map (fun y => if y.index = f.index then f.placed (s.binding b).terms.audio p else y)
        freeCells := s.freeCells - 1 })
      (fun q =>
        { q with asm := { (s.binding b).asm.opened (s.binding b).terms.anchor p.count s.now with
          slots := (overtaken ((s.binding b).freshDeadline p s.now) i (s.binding b).asm.slots).set i
            (.filling f.index (own.getD ((s.binding b).freshDeadline p s.now))) } })
      (fun q => q.counting (fun c => { c with pieces := oneMore c.pieces }))
  · rw [filled, State.fillingPiece_fresh here pieces base audio (by rw [empty]; simp), if_neg room, State.placeCell_eq still_active, empty,
      pieces]
    have one : ([] : List (Nat × List Byte)).length + 1 = p.pieces.toNat ↔ p.pieces.toNat = 1 := eq_comm
    by_cases single : p.pieces.toNat = 1
    · rw [if_pos single, if_pos (one.mpr single)]
      rfl
    · rw [if_neg single, if_neg (mt one.mp single)]

end Sys2Proof.Machine
end

section
/-! A frame that opens at or above E ends the recording (R16, R17), and the whole of an opening. -/

namespace Sys2Proof.Machine

variable {s : State} {b : BindingNo}

theorem State.closeSlot_unseen_binding (active : (s.binding b).state.active = true) (i : Nat) :
    (s.closeSlot b i .unseen).binding b = { s.binding b with
      asm := { (s.binding b).asm with slots := (s.binding b).asm.slots.set i (.closed .unseen) }
      counters := { (s.binding b).counters with unseen := oneMore (s.binding b).counters.unseen } } := by
  have closed : ∀ v : State, v.bindings = s.bindings → ((v.setSlot b i (.closed .unseen)).count b .unseen).binding b =
      { s.binding b with
        asm := { (s.binding b).asm with slots := (s.binding b).asm.slots.set i (.closed .unseen) }
        counters := { (s.binding b).counters with unseen := oneMore (s.binding b).counters.unseen } } := by
    intro v same
    have read : (v.setSlot b i (.closed .unseen)).binding b =
        { s.binding b with asm := { (s.binding b).asm with slots := (s.binding b).asm.slots.set i (.closed .unseen) } } := by
      have here : v.binding b = s.binding b := congrArg (fun l : Vector Binding 16 => l[b]) same
      rw [State.setSlot, State.updAsm, State.binding_updBinding, if_pos rfl, here]
    rw [State.count_of_active (by rw [read]; exact active), State.binding_updBinding, if_pos rfl, read]
    rfl
  unfold State.closeSlot
  dsimp only
  split
  · exact closed _ (State.freeFrame_bindings s _)
  · exact closed _ rfl

/-- The record after closures that are all UNSEEN. -/
theorem State.closeSlots_unseen_recording (cs : List (Nat × Closure)) (active : (s.binding b).state.active = true)
    (unseen : ∀ c ∈ cs, c.2 = .unseen) :
    ((s.closeSlots b cs []).binding b).recording =
      (({ s.binding b with
        asm := { (s.binding b).asm with slots := cs.foldl (fun l c => l.set c.1 (.closed c.2)) (s.binding b).asm.slots }
        counters := { (s.binding b).counters with unseen := min 65535 ((s.binding b).counters.unseen + cs.length) } } :
        Binding).withOutcomes (cs.map Prod.snd)).recording := by
  have folded : ∃ n, min 65535 n = min 65535 ((s.binding b).counters.unseen + cs.length) ∧
      (cs.foldl (fun s c => s.closeSlot b c.1 c.2) s).binding b =
        { s.binding b with
          asm := { (s.binding b).asm with slots := cs.foldl (fun l c => l.set c.1 (.closed c.2)) (s.binding b).asm.slots }
          counters := { (s.binding b).counters with unseen := n } } := by
    induction cs generalizing s with
    | nil => exact ⟨_, rfl, rfl⟩
    | cons c cs ih =>
      have first := State.closeSlot_unseen_binding active c.1
      rw [← unseen c List.mem_cons_self] at first
      obtain ⟨n, total, rest⟩ := ih (s := s.closeSlot b c.1 c.2) (by rw [first]; exact active)
        fun d hd => unseen d (List.mem_cons_of_mem _ hd)
      refine ⟨n, total.trans ?_, rest.trans (by rw [first]; rfl)⟩
      rw [first, List.length_cons]
      show min 65535 (min 65535 ((s.binding b).counters.unseen + 1) + cs.length) = _
      omega
  obtain ⟨n, total, folded⟩ := folded
  refine State.closeSlots_recording_of cs ?_
  have still : ((cs.foldl (fun s c => s.closeSlot b c.1 c.2) s).binding b).state.active = true := by
    rw [folded]
    exact active
  rw [State.count_of_active still, State.binding_updBinding, if_pos rfl, folded]
  exact congrArg (fun k => ({ s.binding b with
    asm := { (s.binding b).asm with slots := cs.foldl (fun l c => l.set c.1 (.closed c.2)) (s.binding b).asm.slots }
    counters := { (s.binding b).counters with unseen := k } } : Binding)) total

theorem freeSlots_overtaken (fresh : Time) (i : Nat) (xs : List Slot) : freeSlots (overtaken fresh i xs) = freeSlots xs := by
  have same : ∀ (j : Nat) (x : Slot), (if j < i ∧ x = .free none then Slot.free (some fresh) else x).outcome = x.outcome := by
    intro j x
    split
    · next h => rw [h.2]; rfl
    · rfl
  unfold freeSlots overtaken
  rw [← List.countP_eq_length_filter, ← List.countP_eq_length_filter, List.mapIdx_eq_zipIdx_map, List.countP_map]
  have plain : List.countP (fun x : Slot => decide (x.outcome = some .unseen)) xs =
      List.countP ((fun x : Slot => decide (x.outcome = some .unseen)) ∘ Prod.fst) (xs.zipIdx) := by
    rw [← List.countP_map, List.zipIdx_map_fst]
  rw [plain]
  refine List.countP_congr fun x _ => ?_
  simp only [Function.comp, same]

theorem freeSlots_set {i : Nat} {xs : List Slot} {d : Option Time} (here : xs[i]? = some (.free d)) {y : Slot}
    (taken : y.outcome ≠ some .unseen) : freeSlots (xs.set i y) = freeSlots xs - 1 := by
  obtain ⟨inside, value⟩ := List.getElem?_eq_some_iff.mp here
  unfold freeSlots
  rw [← List.countP_eq_length_filter, ← List.countP_eq_length_filter, List.countP_set inside, value,
    if_pos (by rfl), if_neg (by simpa using taken), Nat.add_zero]

/-- The window of a binding whose recording a frame in slot `i` has ended, before its FREE slots close. -/
def Binding.endedSlots (r : Binding) (p : Piece) (now : Time) (i : Nat) (own : Option Time) : List Slot :=
  (overtaken (r.freshDeadline p now) i r.asm.slots).set i (.skipped .beyond (own.getD (r.freshDeadline p now)))

theorem overtaken_getElem? (fresh : Time) (i j : Nat) (xs : List Slot) : (overtaken fresh i xs)[j]? =
    xs[j]?.map (fun x => if j < i ∧ x = .free none then .free (some fresh) else x) := List.getElem?_mapIdx

theorem overtaken_free {fresh : Time} {i j : Nat} {xs : List Slot} {d : Option Time} (here : xs[j]? = some (.free d)) :
    ∃ d', (overtaken fresh i xs)[j]? = some (.free d') := by
  rw [overtaken_getElem?, here, Option.map_some]
  split
  · exact ⟨_, rfl⟩
  · exact ⟨_, rfl⟩

theorem Binding.freeSlots_endedSlots {r : Binding} {i : Nat} {own : Option Time} (here : r.asm.slots[i]? = some (.free own))
    (p : Piece) (now : Time) : freeSlots (r.endedSlots p now i own) = freeSlots r.asm.slots - 1 := by
  obtain ⟨d, free⟩ := overtaken_free (fresh := r.freshDeadline p now) (i := i) here
  rw [Binding.endedSlots, freeSlots_set free (by simp [Slot.outcome]), freeSlots_overtaken]

/-- The frame in slot `i` closes as beyond E, the FREE slots as UNSEEN, and every other slot stays. -/
theorem Binding.endedSlots_closed {r : Binding} {i : Nat} {own : Option Time} (here : r.asm.slots[i]? = some (.free own))
    (p : Piece) (now : Time) :
    (∃ d, (unseenClosed (r.endedSlots p now i own))[i]? = some (.skipped .beyond d)) ∧
    ∀ j, j ≠ i → (unseenClosed (r.endedSlots p now i own))[j]? = (r.asm.slots[j]?).map (fun x =>
      match x with
      | .free _ => .closed .unseen
      | y => y) := by
  unfold unseenClosed Binding.endedSlots
  refine ⟨⟨own.getD (r.freshDeadline p now), ?_⟩, fun j apart => ?_⟩
  · have inside : i < (overtaken (r.freshDeadline p now) i r.asm.slots).length := by
      unfold overtaken
      rw [List.length_mapIdx]
      exact (List.getElem?_eq_some_iff.mp here).1
    rw [List.getElem?_map, List.getElem?_set_self inside]
    rfl
  · rw [List.getElem?_map, List.getElem?_set_ne (Ne.symm apart), overtaken_getElem?, Option.map_map]
    cases r.asm.slots[j]? with
    | none => rfl
    | some x =>
      cases x with
      | free d =>
        simp only [Option.map_some, Function.comp]
        split <;> rfl
      | filling | skipped | closed => simp [Slot.outcome]

theorem State.openFrame_of_beyond {p : Piece} {i : Nat} {own : Option Time} (opening : s.openingOf b p = .skip .beyond) :
    s.openFrame b i own p =
      (s.opening b p i (.skipped .beyond (own.getD ((s.binding b).freshDeadline p s.now)))).enterFinishing b
        (if (s.binding b).stopPos < (s.binding b).terms.clipLength then .stopped else .clipFull) := by
  rw [State.openFrame_eq, opening]
  refine (if_pos rfl).trans ?_
  show (s.opening b p i (.skipped .beyond (own.getD ((s.binding b).freshDeadline p s.now)))).beyondEnd b = _
  unfold State.beyondEnd
  dsimp only
  rw [State.opening_binding]

/-- Settles O11: the tests of R47 in their order, the frame that is gathered, and the end that a frame above E brings. -/
theorem frameOpens : Obligations.FrameOpens := by
  refine ⟨?_, ?_⟩
  · intro b i own p s r a fresh slots whole hr recording ordered _ here ha hfresh hslots
    subst hr ha hfresh hslots
    have active : (s.binding b).state.active = true := by rw [recording]; rfl
    refine ⟨fun reason skips => State.openFrame_of_skips ordered active skips i own, fun gathers => ?_⟩
    obtain ⟨f, frames, v, hf, fresh, perm, sorted, hv, opened⟩ :=
      State.openFrame_of_gathers ordered active whole.2.2 gathers i own
    refine ⟨f, fresh, ?_, ?_, ?_, ?_, ?_, ?_, ?_, ?_, ?_, ?_, ?_, ?_, ?_, ?_, ?_, frames, v, perm, sorted, hv, opened⟩
    case refine_10 => rw [hf]; exact Nat.zero_add _
    case refine_15 => rw [hf]; exact if_congr decide_eq_true_iff rfl rfl
    all_goals rw [hf]; rfl
  · intro b i own p s u r hr recording base _ here wide above hu
    subst hr
    have active : (s.binding b).state.active = true := by rw [recording]; rfl
    obtain ⟨n, base⟩ := Option.ne_none_iff_exists'.mp base
    have working := State.worksOn_openFrame s b i own p
    have fewer := State.openFrame_of_beyond (i := i) (own := own) (State.openingOf_beyond wide above)
    have read := State.opening_binding (s := s) (b := b) p i
      (.skipped .beyond (own.getD ((s.binding b).freshDeadline p s.now)))
    rw [← hu] at working fewer
    generalize hv : s.opening b p i (.skipped .beyond (own.getD ((s.binding b).freshDeadline p s.now))) = v at fewer read
    generalize (if (s.binding b).stopPos < (s.binding b).terms.clipLength then FinishReason.stopped
      else .clipFull) = reason at fewer
    have slots : (v.binding b).asm.slots = (s.binding b).endedSlots p s.now i own := by rw [read]; rfl
    have based : (v.binding b).asm.base = some n := by
      rw [read]
      exact (Assembly.opened_base _ _ _ _).trans base
    have finished := State.finishing_binding (s := v) (b := b) (some reason)
    have record := State.closeSlots_unseen_recording (s := v.finishing b (some reason)) (b := b)
      (closuresOf freeUnseen 0 (v.binding b).asm.slots) (by rw [finished]; rfl) fun c => mem_closuresOf_freeUnseen
    rw [← State.enterFinishing_of_base based, ← fewer] at record
    rw [finished] at record
    dsimp only at record
    rw [slots, foldl_set_freeUnseen, length_closuresOf_freeUnseen, Binding.freeSlots_endedSlots here] at record
    obtain ⟨closed, others⟩ := Binding.endedSlots_closed here p s.now
    have asm := (Binding.asm_of_recording record).trans (Binding.withOutcomes_asm _ _)
    have counted := (Binding.unseen_of_recording record).trans
      (congrArg BindingCounters.unseen (Binding.withOutcomes_counters _ _))
    refine ⟨working, (Binding.state_of_recording record).trans (Binding.withOutcomes_state _ _),
      (Binding.reason_of_recording record).trans (Binding.withOutcomes_reason _ _), ?_, ?_, ?_, ?_, ?_⟩
    · rw [asm]; exact closed
    · rw [asm]; exact others
    · intro n' a fresh held free w bounded hn ha hfresh hheld hfree hw
      obtain rfl : n = n' := Option.some.inj (base.symm.trans hn)
      have window : held = (s.binding b).endedSlots p s.now i own := by rw [hheld, hfresh, ha]; rfl
      have state : v.finishing b (some reason) = w := by
        rw [hw, ← hv, State.finishing, State.opening, State.updBinding_updBinding]
        refine State.updBinding_congr ?_
        dsimp only
        rw [window, ha]
        rfl
      have laws : v.Closes b := .of_bounded (by rw [read]; exact active) (by rw [read]; exact bounded)
      rw [fewer, State.enterFinishing_eq laws based, state, slots, ← window, hfree]
      rw [show (v.binding b).deltaOf n = (s.binding b).deltaOf n by rw [read]; rfl]
      rfl
    · rw [counted, read]; rfl
    · rw [fewer, State.enterFinishing_of_base based]
      have freed := (State.frees_closeSlots (s := v.finishing b (some reason)) (b := b)
        (closuresOf freeUnseen 0 (v.binding b).asm.slots) []).length_le
      rwa [show (v.finishing b (some reason)).frames = s.frames by rw [← hv]; rfl] at freed

end Sys2Proof.Machine
end

section
/-! A peer's EXTENT (R125): the runs it enters, the held frames that yield (R113) and those that are filled (R114). -/

namespace Sys2Proof.Machine

variable {s : State} {b : BindingNo}

theorem State.effEnd_of_told {s u : State} (h : u.told = s.told) (b : BindingNo) :
    (u.binding b).effEnd = (s.binding b).effEnd := (congrArg Binding.effEnd (congrFun h b) :)

/-! ### The runs (R107) -/

theorem runRanges_eq {kind : Nat} {code : BitVec 8} (h : code.toNat = kind) (runs : List WireRun) :
    runRanges kind runs = (runs.filter (fun x => x.kind = code ∧ x.count ≠ 0)).map
      (fun x => (x.start.toNat, x.start.toNat + x.count.toNat)) := by
  subst h
  simp only [runRanges, BitVec.toNat_inj]

theorem State.told_insertAll (k : ExtentKind) (ranges : List (Nat × Nat)) : (s.insertAll b k ranges).told = s.told :=
  State.told_foldl s (fun s (x : Nat × Nat) => s.told_insertExtent b k x.1 x.2) ranges

theorem State.insertExtent_ordered (ordered : mapOrdered (s.binding b).coord.map) (k : ExtentKind) (lo hi : Nat) :
    mapOrdered ((s.insertExtent b k lo hi).binding b).coord.map := by
  rcases Nat.lt_or_ge lo (min hi (s.binding b).effEnd) with inside | empty
  · rw [State.insertExtent_of_lt inside, State.binding_updBinding, if_pos rfl]
    exact insertInto_mapOrdered ordered _ k lo hi
  · rw [State.insertExtent_of_le empty]
    exact ordered

theorem State.insertAll_ordered (ordered : mapOrdered (s.binding b).coord.map) (k : ExtentKind) (ranges : List (Nat × Nat)) :
    mapOrdered ((s.insertAll b k ranges).binding b).coord.map := by
  induction ranges generalizing s with
  | nil => exact ordered
  | cons x xs ih => exact ih (State.insertExtent_ordered ordered k x.1 x.2)

theorem mem_clipRanges {e : Nat} {ranges : List (Nat × Nat)} {x : Nat × Nat} :
    x ∈ clipRanges e ranges ↔ ∃ y ∈ ranges, y.1 < min y.2 e ∧ x = (y.1, min y.2 e) := by
  simp only [clipRanges, List.mem_filter, List.mem_map, decide_eq_true_eq]
  constructor
  · rintro ⟨⟨y, hy, rfl⟩, wide⟩
    exact ⟨y, hy, wide, rfl⟩
  · rintro ⟨y, hy, wide, rfl⟩
    exact ⟨⟨y, hy, rfl⟩, wide⟩

/-! ### The held frames that yield -/

theorem Held.yields_iff {m : List Extent} (ordered : mapOrdered m) (e : Nat) (ranges : List (Nat × Nat)) (h : Held) :
    Held.yields m e (clipRanges e ranges) h = true ↔
      (∃ x ∈ ranges, x.1 < min x.2 e ∧ x.1 < h.stop ∧ h.position < min x.2 e) ∧ stored m h.position (min h.stop e) := by
  rw [Held.yields, Bool.and_eq_true, coveredIn_iff m ordered, List.any_eq_true]
  refine and_congr_left fun _ => ?_
  simp only [mem_clipRanges, decide_eq_true_eq]
  constructor
  · rintro ⟨-, ⟨y, hy, wide, rfl⟩, meets⟩
    exact ⟨y, hy, wide, meets⟩
  · rintro ⟨y, hy, wide, meets⟩
    exact ⟨_, ⟨y, hy, wide, rfl⟩, meets⟩

theorem State.yieldFrame_of_active (active : (s.binding b).state.active = true) (i : Nat) :
    s.yieldFrame b i = (s.releaseFrame i).updBinding b (fun q =>
      q.counting (fun c => { c with yields := oneMore c.yields })) := by
  refine State.count_of_active (s := s.releaseFrame i) ?_ .yields 1
  rw [State.state_of_told (s.told_releaseFrame i)]
  exact active

theorem State.yieldCovered_eq (active : (s.binding b).state.active = true) (ordered : mapOrdered (s.binding b).coord.map)
    {ranges : List (Nat × Nat)} {yields : Held → Bool} (h : s.yieldsTo b ranges yields) :
    s.yieldCovered b (clipRanges (s.binding b).effEnd ranges) = s.heldYielded b yields := by
  have same : ∀ x ∈ (s.binding b).coord.held,
      Held.yields (s.binding b).coord.map (s.binding b).effEnd (clipRanges (s.binding b).effEnd ranges) x = yields x :=
    fun x hx => Bool.eq_iff_iff.mpr ((Held.yields_iff ordered _ ranges x).trans (h x hx).symm)
  have yielded : ∀ (l : List Held) (v : State), (v.binding b).state.active = true →
      l.foldl (fun v h => v.yieldFrame b h.frame) v =
        l.foldl (fun v h => (v.releaseFrame h.frame).updBinding b (fun q =>
          q.counting (fun c => { c with yields := oneMore c.yields }))) v := by
    intro l
    induction l with
    | nil => exact fun v _ => rfl
    | cons x xs ih =>
      intro v up
      rw [List.foldl_cons, List.foldl_cons, ← State.yieldFrame_of_active up]
      exact ih _ (by rw [State.state_of_told (v.told_yieldFrame b x.frame)]; exact up)
  unfold State.yieldCovered State.heldYielded
  dsimp only
  rw [List.filter_congr same, yielded]
  · refine congrArg (fun v => List.foldl _ v _) (State.updBinding_congr ?_)
    dsimp only
    rw [List.filter_congr fun x hx => congrArg (!·) (same x hx)]
  · rw [State.updCoord, State.binding_updBinding, if_pos rfl]
    exact active

theorem State.told_heldYielded (yields : Held → Bool) :
    (s.heldYielded b yields).told = (s.updCoord b (fun c => { c with held := c.held.filter (fun h => !yields h) })).told :=
  State.told_foldl _ (fun s (h : Held) => (s.releaseFrame h.frame).told_updBinding b rfl |>.trans (s.told_releaseFrame _)) _

theorem State.heldYielded_state (yields : Held → Bool) : ((s.heldYielded b yields).binding b).state = (s.binding b).state := by
  rw [State.state_of_told (State.told_heldYielded yields), State.updCoord, State.binding_updBinding, if_pos rfl]

theorem State.heldYielded_asm (yields : Held → Bool) : ((s.heldYielded b yields).binding b).asm = (s.binding b).asm := by
  rw [State.asm_of_told (State.told_heldYielded yields), State.updCoord, State.binding_updBinding, if_pos rfl]

theorem State.heldYielded_acct (yields : Held → Bool) : ((s.heldYielded b yields).binding b).acct = (s.binding b).acct := by
  rw [State.acct_of_told (State.told_heldYielded yields), State.updCoord, State.binding_updBinding, if_pos rfl]

theorem State.heldYielded_held (yields : Held → Bool) :
    ((s.heldYielded b yields).binding b).coord.held = (s.binding b).coord.held.filter (fun h => !yields h) := by
  rw [State.held_of_told (State.told_heldYielded yields), State.updCoord, State.binding_updBinding, if_pos rfl]

theorem State.worksOn_heldYielded (yields : Held → Bool) : s.worksOn (s.heldYielded b yields) b :=
  State.worksOn_trans (s.worksOn_updBinding b _) (State.worksOn_foldl _ (fun s (h : Held) =>
    State.worksOn_trans (s.worksOn_releaseFrame b h.frame) (State.worksOn_updBinding _ b _)) _ _)

/-! ### The held frames that are filled -/

/-- After fills the record keeps its state, its window and its accounting, and no filled frame is in the list. -/
theorem State.fillAll_binding (hs : List Held) :
    ((s.fillAll b hs).binding b).state = (s.binding b).state ∧ ((s.fillAll b hs).binding b).asm = (s.binding b).asm ∧
      ((s.fillAll b hs).binding b).acct = (s.binding b).acct ∧
      ∀ h ∈ ((s.fillAll b hs).binding b).coord.held, h ∈ (s.binding b).coord.held ∧ ∀ x ∈ hs, h.frame ≠ x.frame := by
  induction hs generalizing s with
  | nil => exact ⟨rfl, rfl, rfl, fun h hh => ⟨hh, fun x hx => absurd hx (List.not_mem_nil)⟩⟩
  | cons x xs ih =>
    obtain ⟨state, asm, acct, held⟩ := ih (s := s.fillHeld b x)
    have told := s.told_fillHeld b x
    have read : (s.unhold b x.frame).binding b = { s.binding b with coord := { (s.binding b).coord with
        held := (s.binding b).coord.held.filter (fun h => h.frame ≠ x.frame) } } := by
      rw [State.unhold, State.updCoord, State.binding_updBinding, if_pos rfl]
    have shrunk := State.held_of_told told b
    rw [read] at shrunk
    refine ⟨state.trans ((State.state_of_told told b).trans ?_), asm.trans ((State.asm_of_told told b).trans ?_),
      acct.trans ((State.acct_of_told told b).trans ?_), fun h hh => ?_⟩
    · rw [read]
    · rw [read]
    · rw [read]
    · obtain ⟨still, apart⟩ := held h hh
      rw [shrunk] at still
      obtain ⟨was, other⟩ := List.mem_filter.mp still
      exact ⟨was, List.forall_mem_cons.mpr ⟨of_decide_eq_true other, apart⟩⟩

theorem Held.passedOver_iff (e : Nat) (gaps : List (Nat × Nat)) (th : Nat) (h : Held) :
    Held.passedOver (clipRanges e gaps) (some th) h = true ↔
      h.position < th ∨ ∃ x ∈ gaps, x.1 ≤ h.position ∧ h.position < min x.2 e := by
  rw [Held.passedOver, Bool.or_eq_true, List.any_eq_true, decide_eq_true_eq, or_comm]
  refine or_congr_right ?_
  simp only [mem_clipRanges, decide_eq_true_eq]
  constructor
  · rintro ⟨-, ⟨y, hy, wide, rfl⟩, inside⟩
    exact ⟨y, hy, inside⟩
  · rintro ⟨y, hy, from_start, before⟩
    exact ⟨_, ⟨y, hy, Nat.lt_of_le_of_lt from_start before, rfl⟩, from_start, before⟩

/-- Settles O26: the runs are entered, then the covered frames yield, then those passed over are filled. -/
theorem peerExtentIsEntered : Obligations.PeerExtentIsEntered := by
  intro t station clip role th runs s ⟨running, foreign⟩
  have onLane : s.node = .running ∨ s.node = .restarting := .inl running
  have arm : exec (.extent t station clip role th runs) s = .next ((s.atTime t).peerExtent station clip th.toNat runs) :=
    congrArg _ (State.receive_of_other (s := s.atTime t) onLane foreign _ _ _)
  refine ⟨fun idle => ?_, fun b r w v written gaps yields fills named hr bounded hwritten hgaps hw hv yielding filling => ?_⟩
  · have none_active : (s.atTime t).activeFor clip = none := idle
    rw [arm]
    refine congrArg _ ((if_pos running).trans ?_)
    rw [none_active]
    rfl
  · subst hr
    have found : (s.atTime t).activeFor clip = some b := named
    have active : ((s.atTime t).binding b).state.active = true := (State.records_of_activeFor found).1
    have written_eq : runRanges 1 runs = written := (runRanges_eq (code := 1) rfl runs).trans hwritten.symm
    have gaps_eq : runRanges 2 runs = gaps := (runRanges_eq (code := 2) rfl runs).trans hgaps.symm
    -- the state with every run entered
    have told_w : w.told = (s.atTime t).told := by rw [hw]; exact State.told_insertAll .peerWritten written
    have ordered_w : mapOrdered (w.binding b).coord.map := by
      rw [hw]
      exact State.insertAll_ordered (s := s.atTime t) bounded.1 .peerWritten written
    have works_w : (s.atTime t).worksOn w b := by rw [hw]; exact State.worksOn_insertAll _ b _ written
    have entered : (v.binding b).state = (s.binding b).state ∧ (v.binding b).asm = (s.binding b).asm ∧
        (v.binding b).acct = (s.binding b).acct ∧ (v.binding b).effEnd = (s.binding b).effEnd ∧
        (v.binding b).coord.held = (s.binding b).coord.held ∧ mapOrdered (v.binding b).coord.map ∧
        (s.atTime t).worksOn v b := by
      rw [hv]
      split
      · have told_g : (w.insertAll b .primaryGap gaps).told = (s.atTime t).told :=
          (State.told_insertAll .primaryGap gaps).trans told_w
        have ordered_g := State.insertAll_ordered ordered_w .primaryGap gaps
        have works_g := State.worksOn_trans (State.worksOn_trans works_w (State.worksOn_insertAll w b .primaryGap gaps))
          (State.worksOn_updBinding _ b (fun q => { q with coord := { q.coord with primaryThrough := some th.toNat } }))
        refine ⟨?_, ?_, ?_, ?_, ?_, ?_, works_g⟩
        all_goals rw [State.binding_updBinding, if_pos rfl]
        · exact State.state_of_told told_g b
        · exact State.asm_of_told told_g b
        · exact State.acct_of_told told_g b
        · exact State.effEnd_of_told told_g b
        · exact State.held_of_told told_g b
        · exact ordered_g
      · exact ⟨State.state_of_told told_w b, State.asm_of_told told_w b, State.acct_of_told told_w b,
          State.effEnd_of_told told_w b, State.held_of_told told_w b, ordered_w, works_w⟩
    obtain ⟨state, asm, acct, effEnd, held, ordered, works⟩ := entered
    have yielded : v.yieldCovered b (clipRanges (s.binding b).effEnd written) = v.heldYielded b yields := by
      rw [← effEnd]
      exact State.yieldCovered_eq (by rw [state]; exact active) ordered yielding
    -- the frames to be filled
    obtain ⟨passed, hpassed, which⟩ : ∃ passed : Held → Bool,
        (s.atTime t).peerExtent station clip th.toNat runs = (v.heldYielded b yields).fillAll b
          (((v.heldYielded b yields).binding b).coord.held.filter passed) ∧
        ∀ h ∈ (s.binding b).coord.held, passed h = fills h := by
      have opened : (s.atTime t).peerExtent station clip th.toNat runs = _ := (if_pos running).trans (by rw [found])
      dsimp only at opened
      rw [written_eq, gaps_eq] at opened
      by_cases primary : (s.binding b).coord.primary = some station
      · have asked : decide (((s.atTime t).binding b).coord.primary = some station) = true := decide_eq_true primary
        have state_v : v = (w.insertAll b .primaryGap gaps).updCoord b (fun c => { c with primaryThrough := some th.toNat }) :=
          hv.trans (if_pos primary)
        refine ⟨Held.passedOver (clipRanges (s.binding b).effEnd gaps) (some th.toNat), ?_, fun h hh => ?_⟩
        · rw [← yielded, state_v, hw]
          rw [asked] at opened
          exact opened
        · refine Bool.eq_iff_iff.mpr ((Held.passedOver_iff _ _ _ h).trans ((filling h hh).trans ?_).symm)
          exact and_iff_right primary
      · have asked : decide (((s.atTime t).binding b).coord.primary = some station) = false := decide_eq_false primary
        have state_v : v = w := hv.trans (if_neg primary)
        refine ⟨Held.passedOver [] none, ?_, fun h hh => ?_⟩
        · rw [← yielded, state_v, hw]
          rw [asked] at opened
          exact opened
        · exact (Bool.eq_false_iff.mpr fun yes => primary ((filling h hh).mp yes).1).symm
    have filled : ((v.heldYielded b yields).binding b).coord.held.filter passed =
        (s.binding b).coord.held.filter (fun h => fills h && !yields h) := by
      rw [State.heldYielded_held, held, List.filter_filter]
      exact List.filter_congr fun h hh => by rw [which h hh]
    obtain ⟨state', asm', acct', left⟩ := State.fillAll_binding (s := v.heldYielded b yields) (b := b)
      ((s.binding b).coord.held.filter (fun h => fills h && !yields h))
    rw [filled] at hpassed
    refine ⟨_, arm, hpassed, ?_, ?_, ?_, ?_, ?_⟩
    all_goals rw [hpassed]
    · exact State.worksOn_trans works (State.worksOn_trans (State.worksOn_heldYielded yields) (State.worksOn_fillAll _ b _))
    · rw [state', State.heldYielded_state, state]
    · rw [asm', State.heldYielded_asm, asm]
    · rw [acct', State.heldYielded_acct, acct]
    · intro primary h hh
      obtain ⟨was, apart⟩ := left h hh
      rw [State.heldYielded_held, held] at was
      obtain ⟨mem, kept⟩ := List.mem_filter.mp was
      by_contra below
      have fills_h : fills h = true := (filling h mem).mpr ⟨primary, .inl (Nat.not_le.mp below)⟩
      exact apart h (List.mem_filter.mpr ⟨mem, by rw [fills_h, Bool.true_and]; exact kept⟩) rfl

end Sys2Proof.Machine
end

section
/-! Notices offered to the queue (R176 to R178): the place a notice takes, replacement, and the merging of EXTENTs. -/

namespace Sys2Proof.Machine

variable {s : State}

theorem Lane.queue_eq (l : Lane) : l.queue = l.locked ++ l.openNotices := l.locked_append_open.symm

theorem Lane.openNotices_eq_drop (l : Lane) : l.openNotices = l.queue.drop l.locked.length := by
  conv_rhs => rw [l.queue_eq]
  exact List.drop_left.symm

/-- A queue that begins with the locked notices has the rest open. -/
theorem Lane.openNotices_of_queue {l : Lane} {rest : List Notice} (h : l.queue = l.locked ++ rest) : l.openNotices = rest :=
  List.append_cancel_left (l.queue_eq.symm.trans h)

theorem Lane.locked_of_not_sending {l : Lane} (h : l.tx ≠ .sending) : l.locked = [] := if_neg h

theorem Lane.locked_ne_nil {l : Lane} (h : l.tx = .sending) (filled : l.queue ≠ []) : l.locked ≠ [] := by
  rw [Lane.locked, if_pos h]
  cases queue : l.queue with
  | nil => exact absurd queue filled
  | cons x xs => simp

/-- The oldest evictable notice leaves the queue, and at the head it takes the attempts with it. -/
theorem Lane.evict_eq {l : Lane} {pre post : List Notice} {old : Notice} (queue : l.queue = l.locked ++ pre ++ old :: post)
    (out : old.evictable = true) (before : ∀ q ∈ pre, q.evictable = false) :
    l.evict = { l with
      queue := l.locked ++ pre ++ post
      attempts := if l.locked = [] ∧ pre = [] then 0 else l.attempts
      tx := if l.locked = [] ∧ pre = [] ∧ l.tx ≠ .sending then .defer else l.tx } := by
  have opened : l.openNotices = pre ++ old :: post := Lane.openNotices_of_queue (queue.trans (List.append_assoc _ _ _))
  have erased : (pre ++ old :: post).eraseP Notice.evictable = pre ++ post := by
    rw [List.eraseP_append_right _ fun q hq => by simp [before q hq], List.eraseP_cons_of_pos out]
  unfold Lane.evict
  by_cases sending : l.tx = .sending
  · have held : l.locked ≠ [] := Lane.locked_ne_nil sending (by rw [queue]; simp)
    rw [if_pos sending, opened, erased, if_neg (fun h => held h.1), if_neg (fun h => held h.1), List.append_assoc]
  · have unlocked := Lane.locked_of_not_sending sending
    rw [unlocked, List.nil_append] at queue
    rw [if_neg sending, queue, unlocked, List.nil_append]
    cases pre with
    | nil =>
      refine (if_pos ?_).trans ?_
      · simp [out]
      · simp [sending]
    | cons x xs =>
      refine (if_neg ?_).trans ?_
      · simp [before x List.mem_cons_self]
      · rw [erased]
        simp

theorem deferred_or (c : Prop) [Decidable c] (x : TransmitterState) :
    (if (if c then .defer else x) = TransmitterState.idle then .defer else if c then .defer else x) =
      if c then .defer else if x = .idle then TransmitterState.defer else x := by
  split <;> rfl

/-- What a notice that needs a place meets (R178). -/
theorem State.placesTo_place (n : Notice) : s.placesTo n (s.place n) := by
  have full : 16 ≤ s.lane.queue.length → ¬ s.lane.queue.length < 16 := fun h => Nat.not_lt.mpr h
  refine ⟨fun room => if_pos room, fun many plain => ?_, fun many kind none_out => ?_, fun many kind pre old post queue out before => ?_⟩
  · exact (if_neg (full many)).trans (if_pos plain)
  · have closed : ¬ s.lane.openNotices.any Notice.evictable = true := by
      rw [Lane.openNotices_eq_drop, List.any_eq_true]
      rintro ⟨q, hq, out⟩
      exact absurd out (by rw [none_out q hq]; simp)
    exact ((if_neg (full many)).trans (if_neg (by rw [kind]; simp))).trans (if_neg closed)
  · have opened : s.lane.openNotices.any Notice.evictable = true := by
      rw [Lane.openNotices_of_queue (queue.trans (List.append_assoc _ _ _)), List.any_eq_true]
      exact ⟨old, by simp, out⟩
    refine ((if_neg (full many)).trans (if_neg (by rw [kind]; simp))).trans ((if_pos opened).trans ?_)
    rw [State.updLane, Lane.evict_eq queue out before]
    exact congrArg (fun x => { s with lane := { s.lane with
      queue := s.lane.locked ++ pre ++ post ++ [n]
      attempts := if s.lane.locked = [] ∧ pre = [] then 0 else s.lane.attempts
      tx := x } }) (deferred_or (s.lane.locked = [] ∧ pre = [] ∧ s.lane.tx ≠ .sending) s.lane.tx)

/-! ### Replacement (R176) -/

theorem Notice.replaces_iff (n q : Notice) : n.replaces q = true ↔ q.sameSubject n := by
  unfold Notice.replaces Notice.sameSubject
  cases n <;> cases q <;> simp [eq_comm]

theorem State.offer_of_replaced {n old : Notice} {pre post : List Notice} (onLane : s.onLane = true)
    (opened : s.lane.openNotices = pre ++ old :: post) (same : old.sameSubject n) (others : ∀ q ∈ pre ++ post, ¬ q.sameSubject n) :
    s.offer n = { s with lane := { s.lane with queue := s.lane.locked ++ pre ++ n :: post } } := by
  have kept : ∀ l : List Notice, (∀ q ∈ l, ¬ q.sameSubject n) → l.map (fun q => if n.replaces q then n else q) = l :=
    fun l other => (List.map_congr_left fun q hq => if_neg fun yes => other q hq ((Notice.replaces_iff n q).mp yes)).trans
      (List.map_id l)
  have found : s.lane.openNotices.any (Notice.replaces n) = true := by
    rw [opened, List.any_eq_true]
    exact ⟨old, by simp, (Notice.replaces_iff n old).mpr same⟩
  refine (if_pos onLane).trans ((if_pos found).trans ?_)
  rw [State.updLane, opened, List.map_append, List.map_cons, if_pos ((Notice.replaces_iff n old).mpr same),
    kept pre fun q hq => others q (List.mem_append_left _ hq), kept post fun q hq => others q (List.mem_append_right _ hq),
    List.append_assoc]

theorem not_replaced {n : Notice} {l : List Notice} (h : ∀ q ∈ l, ¬ q.sameSubject n) : ¬ l.any (Notice.replaces n) = true := by
  rw [List.any_eq_true]
  rintro ⟨q, hq, yes⟩
  exact h q hq ((Notice.replaces_iff n q).mp yes)

/-! ### Merging (R177) -/

theorem mergesTo_mergeRuns {runs : List Run} : ∀ {queued merged rest : List Run}, mergesTo queued runs merged rest →
    mergeRuns queued runs = (merged, rest) := by
  induction runs with
  | nil =>
    rintro queued merged rest ⟨rfl, rfl⟩
    rfl
  | cons r rs ih =>
    intro queued merged rest ⟨touches, apart⟩
    rcases List.eq_nil_or_concat queued with rfl | ⟨pre, l, rfl⟩
    · exact ih ((apart fun pre l h => by simp at h).1 (by simp))
    · rw [List.concat_eq_append] at touches apart ⊢
      unfold mergeRuns
      rw [List.getLast?_concat]
      dsimp only
      by_cases touch : l.kind = r.kind ∧ r.start = l.stop
      · rw [if_pos touch, List.dropLast_concat]
        exact ih (touches pre l rfl touch.2 touch.1.symm)
      · have apart := apart fun pre' l' h => by
          obtain ⟨-, rfl⟩ := List.append_inj' h rfl |>.imp_right (fun h => List.singleton_inj.mp h)
          exact fun both => touch ⟨both.2.symm, both.1⟩
        rw [if_neg touch]
        by_cases room : (pre ++ [l]).length < 6
        · rw [if_pos (show _ < Config.noticeRuns from room)]
          exact ih (apart.1 room)
        · rw [if_neg (show ¬ _ < Config.noticeRuns from room)]
          obtain ⟨rfl, rfl⟩ := apart.2 (Nat.not_lt.mp room)
          rfl

/-- The newest EXTENT for a clip, behind notices that are none for it. -/
theorem mergeExtentNotice_newest {clip : Clip} {role role' : Role} {th th' : Nat} {runs queued : List Run} :
    ∀ {newer older : List Notice}, (∀ x ∈ newer, ¬ x.extentFor clip) →
      mergeExtentNotice clip role th runs (newer ++ .extent clip role' th' queued :: older) =
        if queued.length < 6 ∨ runs = [] then
          some (newer ++ .extent clip role th (mergeRuns queued runs).1 :: older, (mergeRuns queued runs).2)
        else none := by
  intro newer
  induction newer with
  | nil =>
    intro older _
    exact if_pos rfl
  | cons x xs ih =>
    intro older none_newer
    have behind := ih (older := older) fun y hy => none_newer y (List.mem_cons_of_mem _ hy)
    have first := none_newer x List.mem_cons_self
    rw [List.cons_append]
    have passed : mergeExtentNotice clip role th runs (x :: (xs ++ .extent clip role' th' queued :: older)) =
        (mergeExtentNotice clip role th runs (xs ++ .extent clip role' th' queued :: older)).map
          (fun y => (x :: y.1, y.2)) := by
      cases x with
      | extent c r t q => exact if_neg first
      | _ => rfl
    rw [passed, behind]
    split <;> rfl

theorem mergeExtentNotice_none {clip : Clip} {role : Role} {th : Nat} {runs : List Run} {l : List Notice}
    (h : ∀ x ∈ l, ¬ x.extentFor clip) : mergeExtentNotice clip role th runs l = none := by
  induction l with
  | nil => rfl
  | cons x xs ih =>
    have behind := ih fun y hy => h y (List.mem_cons_of_mem _ hy)
    have first := h x List.mem_cons_self
    cases x with
    | extent c r t q =>
      refine (if_neg first).trans ?_
      rw [behind]
      rfl
    | _ =>
      unfold mergeExtentNotice
      rw [behind]
      rfl

theorem exists_newest_extent {clip : Clip} {l : List Notice} (h : ∃ x ∈ l, x.extentFor clip) :
    ∃ older role th queued newer, l = older ++ .extent clip role th queued :: newer ∧ ∀ x ∈ newer, ¬ x.extentFor clip := by
  induction l with
  | nil => obtain ⟨x, hx, -⟩ := h; exact absurd hx List.not_mem_nil
  | cons y ys ih =>
    by_cases later : ∃ x ∈ ys, x.extentFor clip
    · obtain ⟨older, role, th, queued, newer, rfl, newest⟩ := ih later
      exact ⟨y :: older, role, th, queued, newer, rfl, newest⟩
    · have newest : ∀ x ∈ ys, ¬ x.extentFor clip := fun x hx yes => later ⟨x, hx, yes⟩
      obtain ⟨x, hx, for_clip⟩ := h
      obtain rfl : x = y := (List.mem_cons.mp hx).resolve_right fun tail => newest x tail for_clip
      cases x with
      | extent c role th queued =>
        cases for_clip
        exact ⟨[], role, th, queued, ys, rfl, newest⟩
      | _ => exact for_clip.elim

theorem State.offer_extent (onLane : s.onLane = true) (clip : Clip) (role : Role) (th : Nat) (runs : List Run) :
    s.offer (.extent clip role th runs) =
      (match mergeExtentNotice clip role th runs s.lane.openNotices.reverse with
      | none => s.place (.extent clip role th runs)
      | some (merged, rest) =>
        if rest = [] then s.updLane (fun l => { l with queue := l.locked ++ merged.reverse })
        else (s.updLane (fun l => { l with queue := l.locked ++ merged.reverse })).place (.extent clip role th rest)) := by
  have none_replaced : ∀ q ∈ s.lane.openNotices, ¬ q.sameSubject (.extent clip role th runs) := by
    intro q _
    cases q <;> exact id
  exact (if_pos onLane).trans (if_neg (not_replaced none_replaced))

theorem State.offer_merged {clip : Clip} {role role' : Role} {th th' : Nat} {runs queued merged rest : List Run}
    {pre post : List Notice} (onLane : s.onLane = true)
    (opened : s.lane.openNotices = pre ++ .extent clip role' th' queued :: post) (newest : ∀ x ∈ post, ¬ x.extentFor clip)
    (takes : runs = [] ∨ queued.length < 6) (merges : mergeRuns queued runs = (merged, rest)) {w : State}
    (hw : w = { s with lane := { s.lane with queue := s.lane.locked ++ pre ++ .extent clip role th merged :: post } }) :
    s.offer (.extent clip role th runs) = if rest = [] then w else w.place (.extent clip role th rest) := by
  have found : mergeExtentNotice clip role th runs s.lane.openNotices.reverse =
      some (post.reverse ++ .extent clip role th merged :: pre.reverse, rest) := by
    rw [opened, List.reverse_append, List.reverse_cons, List.append_assoc, List.singleton_append,
      mergeExtentNotice_newest fun x hx => newest x (List.mem_reverse.mp hx), if_pos takes.symm, merges]
  have queue : s.updLane (fun l => { l with
      queue := l.locked ++ (post.reverse ++ .extent clip role th merged :: pre.reverse).reverse }) = w := by
    rw [hw, State.updLane]
    simp
  rw [State.offer_extent onLane, found]
  dsimp only
  rw [queue]

/-- Settles O43, a clause for each way of a notice into the queue. -/
theorem noticesAreQueued : Obligations.NoticesAreQueued := by
  intro n s l locked hl hlocked
  subst hl
  replace hlocked : locked = s.lane.locked := hlocked
  subst hlocked
  refine ⟨fun off => ?_, fun on => ?_⟩
  · refine if_neg fun onLane => ?_
    rcases off with off | off <;> rcases State.onLane_iff.mp onLane with on | on <;> rw [off] at on <;> exact nomatch on
  have onLane : s.onLane = true := State.onLane_iff.mpr on
  have opened : ∀ {pre : List Notice} {x : Notice} {post : List Notice}, s.lane.queue = s.lane.locked ++ pre ++ x :: post →
      s.lane.openNotices = pre ++ x :: post :=
    fun h => Lane.openNotices_of_queue (h.trans (List.append_assoc _ _ _))
  refine ⟨fun pre old post queue same others => State.offer_of_replaced onLane (opened queue) same others, ?_, ?_, ?_⟩
  · intro pre clip role role' th th' runs r q post hn queue newest few
    subst hn
    refine (State.offer_merged onLane (opened queue) newest (.inr (by simp; omega)) ?_ rfl).trans (if_pos rfl)
    unfold mergeRuns
    rw [List.getLast?_concat, List.dropLast_concat]
    dsimp only
    by_cases touch : r.start = q.stop ∧ r.kind = q.kind
    · rw [if_pos touch, if_pos ⟨touch.2.symm, touch.1⟩]
      rfl
    · rw [if_neg touch, if_neg fun h => touch ⟨h.2, h.1.symm⟩, if_pos (by simp [Config.noticeRuns]; omega)]
      simp [mergeRuns]
  · intro pre clip role role' th th' runs queued merged rest post w hn queue newest takes merges hw
    subst hn
    have offered := State.offer_merged onLane (opened queue) newest takes (mergesTo_mergeRuns merges) hw
    refine ⟨fun none_left => offered.trans (if_pos none_left), fun left => ?_⟩
    rw [offered, if_neg left]
    exact State.placesTo_place _
  · intro ⟨others, extents⟩
    rw [← Lane.openNotices_eq_drop] at others extents
    suffices placed : s.offer n = s.place n by
      rw [placed]
      exact State.placesTo_place n
    cases n with
    | extent clip role th runs =>
      rw [State.offer_extent onLane]
      by_cases any : ∃ x ∈ s.lane.openNotices, x.extentFor clip
      · obtain ⟨pre, role', th', queued, post, opened, newest⟩ := exists_newest_extent any
        obtain ⟨some_runs, full⟩ := extents clip role th runs rfl pre role' th' queued post opened newest
        rw [opened, List.reverse_append, List.reverse_cons, List.append_assoc, List.singleton_append,
          mergeExtentNotice_newest fun x hx => newest x (List.mem_reverse.mp hx), if_neg]
        exact fun takes => takes.elim (Nat.not_lt.mpr full) some_runs
      · rw [mergeExtentNotice_none fun x hx yes => any ⟨x, List.mem_reverse.mp hx, yes⟩]
    | _ => exact (if_pos onLane).trans (if_neg (not_replaced others))

end Sys2Proof.Machine
end

section
/-! A RECORD that is answered without a take (R4 to R9). -/

namespace Sys2Proof.Machine

variable {s : State} {clip : Clip} {terms : Terms}

/-! ### The checks of R8 -/

theorem browseCheck_iff (test : Nat → Bool) :
    browseCheck terms test = true ↔ ∃ base, terms.browseBase = some base ∧ test base = true := by
  unfold browseCheck
  cases terms.browseBase <;> simp

/-- Each entry of the table says whether the check of its code fails. -/
theorem parameterChecks_iff :
    ∀ c ∈ parameterChecks clip terms, c.2 = true ↔ checkFails clip terms c.1 := by
  simp only [parameterChecks, List.forall_mem_cons, browseCheck_iff, overlap, decide_eq_true_eq]
  exact ⟨.rfl, .rfl, .rfl, .rfl, .rfl, .rfl, .rfl, .rfl, .rfl, .rfl, .rfl, .rfl, .rfl, .rfl, .rfl, .rfl, .rfl,
    fun c hc => absurd hc List.not_mem_nil⟩

theorem parameterChecks_increasing : (parameterChecks clip terms).Pairwise (fun c d => c.1 < d.1) := by
  simp [parameterChecks]

theorem mem_parameterChecks_of_fails {k : Nat} (h : checkFails clip terms k) : ∃ v, (k, v) ∈ parameterChecks clip terms := by
  unfold checkFails at h
  split at h
  case h_18 => exact h.elim
  all_goals exact ⟨_, by simp [parameterChecks]; rfl⟩

/-- The code of the first check that fails. -/
theorem failedCheck_eq_some {k : Nat} (fails : checkFails clip terms k)
    (first : ∀ j < k, ¬ checkFails clip terms j) : failedCheck clip terms = some k := by
  obtain ⟨v, mem⟩ := mem_parameterChecks_of_fails fails
  have true_k : v = true := (parameterChecks_iff _ mem).mpr fails
  cases found : (parameterChecks clip terms).find? (fun c => c.2) with
  | none => exact absurd true_k (List.find?_eq_none.mp found _ mem)
  | some c =>
    rw [failedCheck, found]
    refine congrArg some (Nat.le_antisymm ?_ (Nat.not_lt.mp fun small => first c.1 small ?_))
    · obtain ⟨-, pre, post, table, none_before⟩ := List.find?_eq_some_iff_append.mp found
      have increasing := parameterChecks_increasing (clip := clip) (terms := terms)
      rw [table] at mem increasing
      rcases List.mem_append.mp mem with before | here | after
      · exact absurd (none_before _ before) (by simp [true_k])
      · exact Nat.le_refl _
      · exact ((List.pairwise_cons.mp (List.pairwise_append.mp increasing).2.1).1 _ ‹_›).le
    · exact (parameterChecks_iff c (List.mem_of_find?_eq_some found)).mp (List.find?_some found :)

theorem failedCheck_eq_none (passes : ∀ k, ¬ checkFails clip terms k) :
    failedCheck clip terms = none := by
  rw [failedCheck, List.find?_eq_none.mpr fun c hc => (passes c.1) ∘ (parameterChecks_iff c hc).mp]
  rfl

/-! ### The decisions of R4 in their order -/

variable {req : Request}

theorem State.repeatOf_eq_some {b : BindingNo} (h : s.repeats req b) (first : ∀ b' < b, ¬ s.repeats req b') :
    s.repeatOf req = some b := by
  refine find?_allBindings_eq_some_iff.mpr ⟨decide_eq_true h, fun b' hb => ?_⟩
  exact decide_eq_false (show ¬ (_ ∧ _ ∧ _) from first b' hb)

theorem State.repeatOf_eq_none (h : ∀ b, ¬ s.repeats req b) : s.repeatOf req = none := by
  refine List.find?_eq_none.mpr fun b _ => ?_
  exact (decide_eq_true_iff.not).mpr (show ¬ (_ ∧ _ ∧ _) from h b)

theorem State.considerRecord_of_unheard (fresh : ∀ b, ¬ s.repeats req b)
    (deaf : ∀ e, s.entry? req.source req.stream = some e → e.ports = 0) (order : List Nat) : s.considerRecord req order = s := by
  unfold State.considerRecord
  rw [State.repeatOf_eq_none fresh]
  refine if_neg ?_
  unfold State.hears
  cases found : s.entry? req.source req.stream with
  | none => simp
  | some e => simp [deaf e found]

theorem State.considerRecord_of_heard (fresh : ∀ b, ¬ s.repeats req b) {e : SourceEntry}
    (found : s.entry? req.source req.stream = some e) (heard : e.ports ≠ 0) (order : List Nat) :
    s.considerRecord req order =
      (match failedCheck req.clip (clampRequest req) with
      | some code => s.offer (.decline req.clip .badParams code)
      | none =>
        match s.stateCheck req, s.firstIdle with
        | some reason, _ => s.offer (.decline req.clip reason 0)
        | none, some b => s.takeRequest b req (clampRequest req) order
        | none, none => s) := by
  unfold State.considerRecord
  rw [State.repeatOf_eq_none fresh]
  refine if_pos ?_
  unfold State.hears
  rw [found]
  exact decide_eq_true heard

theorem State.considerRecord_of_considers {e : SourceEntry} (h : s.considers req e) (order : List Nat) :
    s.considerRecord req order =
      (match s.stateCheck req, s.firstIdle with
      | some reason, _ => s.offer (.decline req.clip reason 0)
      | none, some b => s.takeRequest b req (clampRequest req) order
      | none, none => s) := by
  obtain ⟨fresh, found, heard, passes⟩ := h
  rw [State.considerRecord_of_heard fresh found heard, failedCheck_eq_none passes]

/-! ### The state checks of R9 -/

theorem State.clipBusy_iff : s.busyBindings.any (fun b => (s.binding b).clip = some clip) = true ↔ s.clipBusy clip := by
  rw [List.any_eq_true]
  refine exists_congr fun b => and_congr ?_ decide_eq_true_iff
  rw [State.busyBindings, List.mem_filter, decide_eq_true_eq]
  exact and_iff_right (mem_allBindings b)

theorem State.sourceBound_eq {e : SourceEntry} (found : s.entry? req.source req.stream = some e) :
    s.sourceBound req.source req.stream = e.bound.isSome := by
  rw [State.sourceBound, found]

theorem State.firstIdle_eq_none : s.firstIdle = none ↔ ∀ b : BindingNo, (s.binding b).state ≠ .idle := by
  rw [State.firstIdle, List.find?_eq_none]
  exact ⟨fun h b => by simpa using h b (mem_allBindings b), fun h b _ => by simpa using h b⟩

theorem State.stateCheck_clipBusy (busy : s.clipBusy req.clip) : s.stateCheck req = some .clipBusy :=
  if_pos (State.clipBusy_iff.mpr busy)

theorem State.stateCheck_of_free (free : ¬ s.clipBusy req.clip) {e : SourceEntry}
    (found : s.entry? req.source req.stream = some e) :
    s.stateCheck req = if e.bound ≠ none then some .sourceBusy
      else if s.firstIdle = none then some .noBinding
      else if s.store.link ≠ .up then some .storeDown
      else none := by
  refine (if_neg (State.clipBusy_iff.not.mpr free)).trans ?_
  rw [State.sourceBound_eq found]
  simp only [Option.isSome_iff_ne_none]

theorem State.considerRecord_of_declined {e : SourceEntry} (h : s.considers req e) {reason : DeclineReason}
    (check : s.stateCheck req = some reason) (order : List Nat) :
    s.considerRecord req order = s.offer (.decline req.clip reason 0) := by
  rw [State.considerRecord_of_considers h, check]

/-- Settles O31, the decisions in their order. -/
theorem recordIsAnswered : Obligations.RecordIsAnswered := by
  intro t station req order s v other hv
  replace hv : v = s.atTime t := hv
  subst hv
  have arm : s.node = .running ∨ s.node = .restarting → exec (.record t station req order) s =
      .next (if s.node = .running then (s.atTime t).considerRecord req order else s.atTime t) :=
    fun onLane => congrArg _ (State.receive_of_other (s := s.atTime t) onLane other _ _ _)
  refine ⟨fun restarting => ?_, fun running => ?_⟩
  · rw [arm (.inr restarting)]
    exact congrArg _ (if_neg (by rw [restarting]; simp))
  replace arm : exec (.record t station req order) s = .next ((s.atTime t).considerRecord req order) :=
    (arm (.inl running)).trans (congrArg _ (if_pos running))
  refine ⟨fun b repeated first => ?_, fun fresh => ⟨fun deaf => ?_, fun e k found heard fails first => ?_⟩, fun e considered => ?_⟩
  · have found : (s.atTime t).repeatOf req = some b := State.repeatOf_eq_some (s := s.atTime t) repeated first
    obtain ⟨state, clip, -⟩ := repeated
    rw [arm]
    refine congrArg _ ?_
    unfold State.considerRecord
    rw [found]
    exact State.offerTake_of_active (s := s.atTime t) (by rcases state with h | h <;> exact congrArg BindingState.active h) clip
  · rw [arm]
    exact congrArg _ (State.considerRecord_of_unheard (s := s.atTime t) fresh deaf order)
  · rw [arm, State.considerRecord_of_heard (s := s.atTime t) fresh found heard, failedCheck_eq_some fails first]
  · have declined : ∀ {reason}, (s.atTime t).stateCheck req = some reason →
        exec (.record t station req order) s = .next ((s.atTime t).offer (.decline req.clip reason 0)) :=
      fun check => arm.trans (congrArg _ (State.considerRecord_of_declined (s := s.atTime t) considered check order))
    have found := considered.2.1
    have check := fun free => State.stateCheck_of_free (s := s.atTime t) (req := req) free found
    refine ⟨fun busy => declined (State.stateCheck_clipBusy (s := s.atTime t) busy),
      fun free bound => declined ((check free).trans (if_pos bound)), fun free unbound full => declined ?_,
      fun free unbound idle down => declined ?_⟩
    · exact ((check free).trans (if_neg (not_not.mpr unbound))).trans
        (if_pos (State.firstIdle_eq_none (s := s.atTime t).mpr full))
    · have some_idle : (s.atTime t).firstIdle ≠ none := fun none_idle =>
        idle.elim fun b hb => State.firstIdle_eq_none.mp none_idle b hb
      exact (((check free).trans (if_neg (not_not.mpr unbound))).trans (if_neg some_idle)).trans (if_pos down)

end Sys2Proof.Machine
end

section
/-! The data of a transaction (R128 to R130, R161, R162, section 11.5): records as layouts of fields, and the pieces of a
frame in runs of 64. -/

namespace Sys2Proof.Machine

/-! ### Records as layouts -/

/-- Fields one after another, each with its length and value. -/
def layout : List (Nat × Nat) → List Byte
  | [] => []
  | x :: xs => bytesOf x.1 x.2 ++ layout xs

/-- The fields of a layout with their offsets. -/
def fieldsFrom (offset : Nat) : List (Nat × Nat) → List (Nat × Nat × Nat)
  | [] => []
  | x :: xs => (offset, x.1, x.2) :: fieldsFrom (offset + x.1) xs

theorem bytesOf_zero (n : Nat) : bytesOf n 0 = List.replicate n 0 := by
  induction n with
  | zero => rfl
  | succ n ih => simp [bytesOf, ih, List.replicate_succ]

theorem le_of_mem_fieldsFrom {l : List (Nat × Nat)} {offset : Nat} {x : Nat × Nat × Nat} (h : x ∈ fieldsFrom offset l) :
    offset ≤ x.1 := by
  induction l generalizing offset with
  | nil => exact absurd h List.not_mem_nil
  | cons y ys ih =>
    rcases List.mem_cons.mp h with rfl | later
    · exact Nat.le_refl _
    · exact Nat.le_trans (Nat.le_add_right _ _) (ih later)

theorem field_layout {l : List (Nat × Nat)} {offset : Nat} {x : Nat × Nat × Nat} (h : x ∈ fieldsFrom offset l) :
    field (layout l) (x.1 - offset) x.2.1 = x.2.2 % 256 ^ x.2.1 := by
  induction l generalizing offset with
  | nil => exact absurd h List.not_mem_nil
  | cons y ys ih =>
    rcases List.mem_cons.mp h with rfl | later
    · rw [layout, Nat.sub_self, field_bytesOf_append]
    · have after := le_of_mem_fieldsFrom later
      rw [layout, field_skip _ _ _ (by omega), Nat.sub_sub]
      exact ih later

/-- A byte of a layout lies in one of its fields; in a field of value 0 it is 0. -/
theorem layout_getElem? {l : List (Nat × Nat)} {offset k : Nat} (inside : k < (layout l).length) :
    ∃ x ∈ fieldsFrom offset l, x.1 ≤ offset + k ∧ offset + k < x.1 + x.2.1 ∧ (x.2.2 = 0 → (layout l)[k]? = some 0) := by
  induction l generalizing offset k with
  | nil => exact absurd inside (Nat.not_lt_zero _)
  | cons y ys ih =>
    rw [layout, List.length_append, length_bytesOf] at inside
    rcases Nat.lt_or_ge k y.1 with first | later
    · refine ⟨(offset, y.1, y.2), List.mem_cons_self, Nat.le_add_right _ _, Nat.add_lt_add_left first _, fun zero => ?_⟩
      rw [layout, show y.2 = 0 from zero, bytesOf_zero, List.getElem?_append_left (by simpa using first),
        List.getElem?_replicate, if_pos first]
    · obtain ⟨x, mem, from_start, before, value⟩ := ih (offset := offset + y.1) (k := k - y.1) (by omega)
      refine ⟨x, List.mem_cons_of_mem _ mem, by omega, by omega, fun zero => ?_⟩
      rw [layout, List.getElem?_append_right (by rwa [length_bytesOf]), length_bytesOf]
      exact value zero

/-- A layout of 32 bytes is the record of its fields, those of value 0 left out or not. -/
theorem isRecord_layout {fields : List (Nat × Nat × Nat)} {l : List (Nat × Nat)} (size : (layout l).length = 32)
    (named : ∀ x ∈ fields, x ∈ fieldsFrom 0 l) (others : ∀ x ∈ fieldsFrom 0 l, x ∈ fields ∨ x.2.2 = 0) :
    isRecord fields (layout l) := by
  refine ⟨size, fun x hx => field_layout (named x hx), fun k small free => ?_⟩
  obtain ⟨x, mem, from_start, before, value⟩ := layout_getElem? (offset := 0) (size ▸ small)
  refine value ((others x mem).resolve_left fun named => ?_)
  rcases free x named with h | h <;> omega

variable (terms : Terms) (f : FrameRecord)

theorem isRecord_frameRecordBytes {q : BitVec 8} (quality : f.quality = some q) :
    isRecord (frameFields terms f q) (frameRecordBytes terms f) := by
  have code : f.qualityCode = q.toNat := by rw [FrameRecord.qualityCode, quality]
  have laid : frameRecordBytes terms f = layout [(1, 0x5A), (1, terms.audio), (1, q.toNat), (2, f.pieces), (2, f.base),
      (2, f.audio), (3, f.spanStart), (4, f.count.toNat), (4, (f.count - terms.anchor).toNat), (3, f.byteTotal), (1, 0),
      (2, f.peaks[0]), (2, f.peaks[1]), (2, f.peaks[2]), (2, f.peaks[3])] := by
    simp only [frameRecordBytes, peakBytes, code, layout, List.append_assoc, List.append_nil]
    rfl
  rw [laid]
  refine isRecord_layout (by simp [layout]) ?_ ?_
  · simp [frameFields, peakFields, fieldsFrom]
  · simp [frameFields, peakFields, fieldsFrom]

theorem isRecord_repeatRecordBytes (stored p : Nat) :
    isRecord (repeatFields terms stored p) (repeatRecordBytes terms stored p) := by
  have laid : repeatRecordBytes terms stored p = layout [(1, 0xA5), (3, 0), (3, p), (1, 0), (3, stored), (1, 0),
      (6, terms.essenceBase + stored * terms.slotCells * 1024), (14, 0)] := by
    simp only [repeatRecordBytes, layout, List.append_assoc, List.append_nil]
    rfl
  rw [laid]
  refine isRecord_layout (by simp [layout]) ?_ ?_
  · simp [repeatFields, fieldsFrom]
  · simp [repeatFields, fieldsFrom]

theorem isRecord_browseRecordBytes {q : BitVec 8} (quality : f.quality = some q) (slot : Nat) :
    isRecord (browseFields terms f q slot f.baseTotal) (browseRecordBytes terms f slot) := by
  have code : f.qualityCode = q.toNat := by rw [FrameRecord.qualityCode, quality]
  have laid : browseRecordBytes terms f slot = layout [(1, 0x3C), (1, terms.audio), (1, q.toNat), (1, f.base), (3, slot),
      (3, f.spanStart), (4, f.count.toNat), (3, f.baseTotal), (7, 0), (2, f.peaks[0]), (2, f.peaks[1]), (2, f.peaks[2]),
      (2, f.peaks[3])] := by
    simp only [browseRecordBytes, peakBytes, code, layout, List.append_assoc, List.append_nil]
    rfl
  rw [laid]
  refine isRecord_layout (by simp [layout]) ?_ ?_
  · simp [browseFields, peakFields, fieldsFrom]
  · simp [browseFields, peakFields, fieldsFrom]

/-! ### The pieces of a frame -/

theorem filter_range_between {lo hi m : Nat} (inside : hi ≤ m) :
    (List.range m).filter (fun k => lo ≤ k ∧ k < hi) = (List.range (hi - lo)).map (lo + ·) := by
  induction m generalizing hi with
  | zero =>
    obtain rfl : hi = 0 := Nat.le_zero.mp inside
    simp
  | succ m ih =>
    rw [List.range_succ, List.filter_append]
    rcases Nat.lt_or_ge m hi with last | short
    · obtain rfl : hi = m + 1 := by omega
      have below : (List.range m).filter (fun k => lo ≤ k ∧ k < m + 1) = (List.range m).filter (fun k => lo ≤ k ∧ k < m) := by
        refine List.filter_congr fun k hk => ?_
        have := List.mem_range.mp hk
        exact decide_eq_decide.mpr (and_congr_right fun _ => by omega)
      rw [below, ih (Nat.le_refl m)]
      rcases Nat.lt_or_ge m lo with empty | wide
      · rw [List.filter_cons_of_neg (by simp; omega), Nat.sub_eq_zero_of_le (by omega), Nat.sub_eq_zero_of_le (by omega)]
        rfl
      · rw [List.filter_cons_of_pos (by simp; omega), show m + 1 - lo = (m - lo) + 1 by omega, List.range_succ, List.map_append]
        simp [show lo + (m - lo) = m by omega]
    · rw [ih short, List.filter_cons_of_neg (by simp; omega)]
      simp

/-- The pieces of run `i` of a frame of which the first `n` are carried. -/
theorem pieceData_eq {payload : Nat → List Byte} (cells : f.cells = (List.range f.pieces).map (fun k => (k, payload k)))
    {n : Nat} (part : n ≤ f.pieces) (i : Nat) :
    pieceData f (64 * i) (min (64 * i + 64) n) = (List.range (min 64 (n - 64 * i))).flatMap (fun k =>
      payload (64 * i + k) ++ List.replicate (1024 - (payload (64 * i + k)).length) 0) := by
  rw [pieceData, cells, List.filter_map, List.flatMap_map,
    show ((fun c : Nat × List Byte => decide (64 * i ≤ c.1 ∧ c.1 < min (64 * i + 64) n)) ∘ fun k => (k, payload k)) =
      fun k => decide (64 * i ≤ k ∧ k < min (64 * i + 64) n) from rfl,
    filter_range_between (by omega), List.flatMap_map, show min (64 * i + 64) n - 64 * i = min 64 (n - 64 * i) by omega]
  rfl

theorem baseTotal_eq {payload : Nat → List Byte} (cells : f.cells = (List.range f.pieces).map (fun k => (k, payload k)))
    (part : f.base ≤ f.pieces) : f.baseTotal = ((List.range f.base).map (fun k => (payload k).length)).sum := by
  have below := filter_range_between (lo := 0) part
  simp only [Nat.zero_le, true_and, Nat.zero_add, Nat.sub_zero, List.map_id'] at below
  rw [FrameRecord.baseTotal, cells, List.filter_map,
    show ((fun c : Nat × List Byte => decide (c.1 < f.base)) ∘ fun k => (k, payload k)) = fun k => decide (k < f.base) from rfl,
    below, List.map_map]
  rfl

/-- The data of a transaction are those of R128 to R130, R161 and R162. -/
theorem carries_transactionOf {j : Job} {payload : Nat → List Byte} {q : BitVec 8}
    (cells : f.cells = (List.range f.pieces).map (fun k => (k, payload k))) (part : f.base ≤ f.pieces)
    (quality : f.quality = some q) (i : Nat) : j.carries terms f payload q i (transactionOf terms f j i).2 := by
  unfold Job.carries transactionOf
  cases j.kind <;> cases j.phase
  case essence.body => exact pieceData_eq f cells (Nat.le_refl _) i
  case browse.body => exact pieceData_eq f cells part i
  case browse.records =>
    show isRecord _ _
    rw [← baseTotal_eq f cells part]
    exact isRecord_browseRecordBytes terms f quality j.start
  case essence.records =>
    refine ⟨(List.range (min (j.start + 2048 * i + 2048) j.stop - (j.start + 2048 * i))).map
      (fun k => indexRecord terms f (j.start + 2048 * i + k)), ?_, ?_, ?_⟩
    · rw [← List.flatMap_def]
      rfl
    · rw [List.length_map, List.length_range]
      omega
    · intro k bytes found
      obtain ⟨inside, rfl⟩ := List.getElem?_eq_some_iff.mp found
      rw [List.getElem_map, List.getElem_range, indexRecord]
      split
      · exact isRecord_frameRecordBytes terms f quality
      · exact isRecord_repeatRecordBytes terms _ _

theorem address_transactionOf (j : Job) (i : Nat) : (transactionOf terms f j i).1 = j.addressOf terms i := by
  unfold Job.addressOf transactionOf
  cases j.kind <;> cases j.phase <;> rfl

end Sys2Proof.Machine
end

section
/-! GRANT: the arbiter's choice and the transaction that is issued (R135 to R138). -/

namespace Sys2Proof.Machine

variable {s : State} {c : JobClass}

/-! ### Which class wins -/

theorem State.eligible_iff (c : JobClass) : s.eligible c = true ↔
    s.store.link = .up ∧ (∃ x : Tag, s.tag x = .free) ∧ s.node = .running ∧ (∃ j ∈ s.store.queue c, j.todo ≠ []) ∧
      (c = .browse → s.store.pacing = none) := by
  have tag : allTags.any (fun g => s.tagFree g) = true ↔ ∃ x : Tag, s.tag x = .free := by
    rw [List.any_eq_true]
    exact exists_congr fun x => (and_iff_right (mem_allTags x)).trans decide_eq_true_iff
  have ready : (s.store.readyJob c).isSome = true ↔ ∃ j ∈ s.store.queue c, j.todo ≠ [] := by
    rw [Store.readyJob, List.find?_isSome]
    simp
  have paced : (decide (c ≠ .browse) || s.store.pacing.isNone) = true ↔ (c = .browse → s.store.pacing = none) := by
    rw [Bool.or_eq_true, decide_eq_true_eq, Option.isNone_iff_eq_none]
    exact Decidable.imp_iff_not_or.symm
  rw [State.eligible, Bool.and_eq_true, Bool.and_eq_true, Bool.and_eq_true, Bool.and_eq_true, decide_eq_true_eq,
    decide_eq_true_eq, tag, ready, paced, and_assoc, and_assoc, and_assoc]

theorem State.eligibleClasses_ranked : s.eligibleClasses.Pairwise (fun c d => c.rank < d.rank) :=
  List.Pairwise.filter _ (by simp [JobClass.rank])

/-- The first of a list in order of rank is the one of least rank. -/
theorem head?_of_least {l : List JobClass} (ranked : l.Pairwise (fun c d => c.rank < d.rank)) (mem : c ∈ l)
    (least : ∀ d ∈ l, c.rank ≤ d.rank) : l.head? = some c := by
  cases l with
  | nil => exact absurd mem List.not_mem_nil
  | cons x xs =>
    rcases List.mem_cons.mp mem with rfl | later
    · rfl
    · have before := (List.pairwise_cons.mp ranked).1 c later
      exact absurd (least x List.mem_cons_self) (Nat.not_le.mpr before)

theorem greatest_ne_none {v : JobClass → Int} {x : JobClass} {xs : List JobClass} : greatest v (x :: xs) ≠ none := by
  unfold greatest
  split
  · simp
  · split <;> simp

/-- The greatest of a list in order of rank: the lower class among equals (R136). -/
theorem greatest_of_max {v : JobClass → Int} {l : List JobClass} (ranked : l.Pairwise (fun c d => c.rank < d.rank))
    (mem : c ∈ l) (max : ∀ d ∈ l, v d ≤ v c ∧ (v d = v c → c.rank ≤ d.rank)) : greatest v l = some c := by
  induction l with
  | nil => exact absurd mem List.not_mem_nil
  | cons x xs ih =>
    obtain ⟨first, rest⟩ := List.pairwise_cons.mp ranked
    have later_max : ∀ d ∈ xs, v d ≤ v c ∧ (v d = v c → c.rank ≤ d.rank) := fun d hd => max d (List.mem_cons_of_mem _ hd)
    unfold greatest
    rcases List.mem_cons.mp mem with rfl | later
    · split
      · rfl
      · next d found => exact if_neg (not_lt.mpr (later_max d (greatest_mem found)).1)
    · rw [ih rest later later_max]
      refine if_pos ?_
      obtain ⟨le, tie⟩ := max x List.mem_cons_self
      exact lt_of_le_of_ne le fun eq => absurd (tie eq) (Nat.not_le.mpr (first c later))

theorem State.weightOf_of_eligible (h : s.eligible c = true) : s.weightOf c = s.opts.weight c := if_pos h

theorem State.winner_eq_some (wins : s.winsGrant c) : s.winner = some c := by
  obtain ⟨eligible, best⟩ := wins
  have mem := (s.mem_eligibleClasses_iff c).mpr eligible
  have of_mem : ∀ d ∈ s.eligibleClasses, s.eligible d = true := fun d => (s.mem_eligibleClasses_iff d).mp
  unfold State.winner
  by_cases strict : s.opts.strict = true
  · rw [if_pos strict]
    exact head?_of_least State.eligibleClasses_ranked mem fun d hd => by simpa [strict] using best d (of_mem d hd)
  · rw [if_neg strict]
    refine greatest_of_max State.eligibleClasses_ranked mem fun d hd => ?_
    have h := best d (of_mem d hd)
    rw [if_neg strict, State.weightOf_of_eligible (of_mem d hd), State.weightOf_of_eligible eligible] at h
    exact h

theorem State.winner_eq_none (h : ∀ c : JobClass, s.eligible c = false) : s.winner = none := by
  have empty : s.eligibleClasses = [] := by simp [State.eligibleClasses, h]
  unfold State.winner
  rw [empty]
  split <;> rfl

/-! ### The current values -/

theorem Store.current_setCurrent (st : Store) (c d : JobClass) (v : Int) :
    (st.setCurrent c v).current d = if d = c then v else st.current d := by
  cases c <;> cases d <;> rfl

/-- Adding a value for each class of a list without repetitions. -/
theorem Store.current_foldl_setCurrent (w : JobClass → Int) {l : List JobClass} (nodup : l.Nodup) (st : Store) (d : JobClass) :
    (l.foldl (fun st c => st.setCurrent c (st.current c + w c)) st).current d =
      st.current d + if d ∈ l then w d else 0 := by
  induction l generalizing st with
  | nil => simp
  | cons x xs ih =>
    obtain ⟨fresh, rest⟩ := List.nodup_cons.mp nodup
    rw [List.foldl_cons, ih rest, Store.current_setCurrent]
    by_cases here : d = x
    · rw [here, if_pos rfl, if_neg fresh, if_pos List.mem_cons_self, add_zero]
    · rw [if_neg here]
      simp [here]

theorem State.eligibleClasses_nodup : s.eligibleClasses.Nodup :=
  State.eligibleClasses_ranked.imp fun h eq => absurd h (by rw [eq]; exact Nat.lt_irrefl _)

theorem State.sum_weights : (s.eligibleClasses.map (fun c => (s.opts.weight c : Int))).sum =
    s.weightOf .live + s.weightOf .fill + s.weightOf .browse := by
  have filtered : ∀ l : List JobClass, ((l.filter (fun c => s.eligible c)).map (fun c => (s.opts.weight c : Int))).sum =
      (l.map s.weightOf).sum := by
    intro l
    induction l with
    | nil => rfl
    | cons c cs ih =>
      rw [List.map_cons, List.sum_cons, ← ih, List.filter_cons, State.weightOf]
      split
      · rw [List.map_cons, List.sum_cons]
      · rw [zero_add]
  rw [State.eligibleClasses, filtered]
  simp [add_assoc]

/-- What a weighted grant leaves of the store but for the current values. -/
def Store.sameButCurrent (st st' : Store) : Prop :=
  ∃ x y z : Int, st' = { st with currentLive := x, currentFill := y, currentBrowse := z }

theorem Store.sameButCurrent_setCurrent (st : Store) (c : JobClass) (v : Int) : st.sameButCurrent (st.setCurrent c v) := by
  cases c
  · exact ⟨v, _, _, rfl⟩
  · exact ⟨_, v, _, rfl⟩
  · exact ⟨_, _, v, rfl⟩

theorem Store.sameButCurrent_foldl (w : JobClass → Int) (l : List JobClass) (st : Store) :
    st.sameButCurrent (l.foldl (fun st c => st.setCurrent c (st.current c + w c)) st) := by
  induction l generalizing st with
  | nil => exact ⟨_, _, _, rfl⟩
  | cons c cs ih =>
    obtain ⟨x, y, z, h⟩ := st.sameButCurrent_setCurrent c (st.current c + w c)
    obtain ⟨x', y', z', h'⟩ := ih (st.setCurrent c (st.current c + w c))
    exact ⟨x', y', z', h'.trans (by rw [h])⟩

/-- The current values move, and nothing else of the state. -/
theorem State.weigh_eq (won : JobClass) : ∃ st : Store, s.weigh won = { s with store := st } ∧ s.store.sameButCurrent st ∧
    ∀ d, st.current d = if s.opts.strict then s.store.current d
      else s.store.current d + s.weightOf d -
        (if d = won then s.weightOf .live + s.weightOf .fill + s.weightOf .browse else 0) := by
  unfold State.weigh
  by_cases strict : s.opts.strict = true
  · rw [if_pos strict]
    exact ⟨s.store, rfl, ⟨_, _, _, rfl⟩, fun d => by rw [if_pos strict]⟩
  · rw [if_neg strict]
    have added := Store.current_foldl_setCurrent (fun c => (s.opts.weight c : Int)) (State.eligibleClasses_nodup (s := s)) s.store
    have member : ∀ d, (if d ∈ s.eligibleClasses then (s.opts.weight d : Int) else 0) = s.weightOf d :=
      fun d => by simp only [s.mem_eligibleClasses_iff, State.weightOf]
    refine ⟨_, rfl, ?_, fun d => ?_⟩
    · obtain ⟨x, y, z, h⟩ := Store.sameButCurrent_foldl (fun c => (s.opts.weight c : Int)) s.eligibleClasses s.store
      obtain ⟨x', y', z', h'⟩ := Store.sameButCurrent_setCurrent
        (s.eligibleClasses.foldl (fun st c => st.setCurrent c (st.current c + s.opts.weight c)) s.store) won
        ((s.eligibleClasses.foldl (fun st c => st.setCurrent c (st.current c + s.opts.weight c)) s.store).current won -
          (s.eligibleClasses.map (fun c => (s.opts.weight c : Int))).sum)
      exact ⟨x', y', z', h'.trans (by rw [h])⟩
    · rw [if_neg strict, Store.current_setCurrent]
      split
      · next here => rw [here, added, member, State.sum_weights]
      · rw [added, member, sub_zero]

/-! ### The transaction that is issued -/

/-- The transaction of a job with an index, issued at a time. -/
def State.transactionFor (s : State) (j : Job) (f : FrameRecord) (i : Nat) : Transaction :=
  let tx := transactionOf (s.binding j.binding).terms f j i
  { owner := .job j.kind j.binding j.frame i, retried := decide (i ∈ j.retried), address := tx.1, data := tx.2,
    deadline := s.now + ms s.opts.storeTimeout }

theorem State.issueFrom_eq {j : Job} {i : Nat} {rest : List Nat} {f : FrameRecord} (ready : s.store.readyJob c = some j)
    (todo : j.todo = i :: rest) (here : s.frame? j.frame = some f) (g : Tag) :
    s.issueFrom c g = { s with store := {
      s.store.setQueue j.cls ((s.store.queue j.cls).map (fun x => if x.is j.kind j.frame then { x with todo := rest } else x)) with
        tags := s.store.tags.set g (.busy (s.transactionFor j f i))
        pacing := if c = .browse ∧ (s.transactionFor j f i).data.length * s.opts.pace ≠ 0
          then some ⟨s.now, (s.transactionFor j f i).data.length * s.opts.pace⟩ else s.store.pacing } } := by
  unfold State.issueFrom
  rw [ready]
  dsimp only
  rw [todo, here]
  dsimp only
  have tags : ∀ (k : JobClass) (q : List Job), (s.store.setQueue k q).tags = s.store.tags := by
    intro k q
    cases k <;> rfl
  have pacing : ∀ (k : JobClass) (q : List Job), (s.store.setQueue k q).pacing = s.store.pacing := by
    intro k q
    cases k <;> rfl
  by_cases paced : c = .browse ∧ (s.transactionFor j f i).data.length * s.opts.pace ≠ 0
  · rw [if_pos paced, ← tags j.cls]
    exact if_pos paced
  · rw [if_neg paced, ← tags j.cls, ← pacing j.cls]
    exact if_neg paced

/-- Settles O46: the classes that are eligible, the one that wins, and what it issues. -/
theorem grantIssues : Obligations.GrantIssues := by
  intro t g s
  refine ⟨State.eligible_iff, fun none_eligible => ?_, ?_⟩
  · have idle : (s.atTime t).winner = none := State.winner_eq_none (s := s.atTime t) none_eligible
    refine congrArg Host.Outcome.next ?_
    unfold State.grantOnce
    rw [idle]
    rfl
  intro c pre post j i rest f terms lawful wins free queue unready todo here hterms
  subst hterms
  obtain ⟨st, weighed, ⟨x, y, z, same⟩, current⟩ := State.weigh_eq (s := s.atTime t) c
  have winner : (s.atTime t).winner = some c := State.winner_eq_some (s := s.atTime t) wins
  have picked : (s.atTime t).pickTag g = some g := if_pos (decide_eq_true free)
  have granted : (s.atTime t).grantOnce g = ((s.atTime t).weigh c).issueFrom c g := by
    unfold State.grantOnce
    rw [winner, picked]
  have cls : j.cls = c := (lawful c).2.1 j (by rw [queue]; simp)
  have queues : ∀ d, st.queue d = s.store.queue d := by
    intro d
    rw [same]
    cases d <;> rfl
  have ready : st.readyJob c = some j := by
    rw [Store.readyJob, queues, queue, List.find?_append, List.find?_eq_none.mpr fun x hx => by simp [unready x hx],
      Option.none_or]
    exact List.find?_cons_of_pos (by simp [todo])
  have issued := State.issueFrom_eq (s := (s.atTime t).weigh c) (c := c) (i := i) (rest := rest) (f := f) (j := j)
    (by rw [weighed]; exact ready) todo (by rw [weighed]; exact here) g
  rw [← granted, weighed] at issued
  generalize htx : State.transactionFor { s.atTime t with store := st } j f i = tx at issued
  obtain ⟨st', hst, issued⟩ : ∃ st' : Store, st' =
      { st.setQueue j.cls ((st.queue j.cls).map (fun x => if x.is j.kind j.frame then { x with todo := rest } else x)) with
        tags := st.tags.set g (.busy tx)
        pacing := if c = .browse ∧ tx.data.length * s.opts.pace ≠ 0
          then some ⟨t, tx.data.length * s.opts.pace⟩ else st.pacing } ∧
      (s.atTime t).grantOnce g = { s with now := t, store := st' } := ⟨_, rfl, issued⟩
  refine ⟨_, tx, congrArg Host.Outcome.next issued, rfl, ?_⟩
  dsimp only
  have queue' : ∀ d, st'.queue d = if d = c then
      (s.store.queue c).map (fun x => if x.kind = j.kind ∧ x.frame = j.frame then { x with todo := rest } else x)
      else s.store.queue d := by
    intro d
    have set : st'.queue d = (st.setQueue j.cls
        ((st.queue j.cls).map (fun x => if x.is j.kind j.frame then { x with todo := rest } else x))).queue d := by
      rw [hst]
      cases d <;> rfl
    rw [set, Store.setQueue_queue, cls, queues, queues]
    simp only [Job.is, decide_eq_true_eq]
  have current' : ∀ d, st'.current d = st.current d := by
    intro d
    have set : st'.current d = (st.setQueue j.cls
        ((st.queue j.cls).map (fun x => if x.is j.kind j.frame then { x with todo := rest } else x))).current d := by
      rw [hst]
      cases d <;> rfl
    rw [set, Store.setQueue_current, if_neg]
    rw [cls, queues, queue]
    simp
  have others : st'.link = s.store.link ∧ st'.failures = s.store.failures ∧ st'.nextProbe = s.store.nextProbe := by
    rw [hst, same]
    cases j.cls <;> exact ⟨rfl, rfl, rfl⟩
  refine ⟨by rw [← htx]; rfl, ?_, by rw [← htx]; rfl, by rw [← htx]; rfl, fun payload q cells part quality => ?_, ?_, ?_,
    fun d other => (queue' d).trans (if_neg other), fun d => (current' d).trans (current d), ?_, others⟩
  · rw [← htx]
    exact address_transactionOf _ f j i
  · rw [← htx]
    exact carries_transactionOf _ f cells part quality i
  · rw [hst, same]
    rfl
  · exact (queue' c).trans (if_pos rfl)
  · rw [hst, same]
    rfl

end Sys2Proof.Machine
end

section
/-! What the failures of jobs and the regrading of bindings leave of a state (R93, R143, R146), and the operations of the
Store Port as single changes of the store. -/

namespace Sys2Proof.Machine

/-! ### The counters of the Store Port -/

/-- The node counters but for those of notices and reports that are lost. -/
def State.tallies (s : State) : NodeCounters := { s.counters with queueDrops := 0, reportsLost := 0 }

section Tallies

variable (s : State) (b : BindingNo)

@[simp] theorem State.tallies_updBinding (f : Binding → Binding) : (s.updBinding b f).tallies = s.tallies := rfl

@[simp] theorem State.tallies_updFrame (i : Nat) (g : FrameRecord → FrameRecord) : (s.updFrame i g).tallies = s.tallies := rfl

@[simp] theorem State.tallies_updStore (f : Store → Store) : (s.updStore f).tallies = s.tallies := rfl

@[simp] theorem State.tallies_giveBack (i : Nat) : (s.giveBack i).tallies = s.tallies := by
  obtain ⟨fr, n, h⟩ := s.giveBack_spec i
  rw [h]
  rfl

@[simp] theorem State.tallies_count (c : BindingCounter) (k : Nat) : (s.count b c k).tallies = s.tallies := by
  unfold State.count
  split <;> rfl

theorem State.tallies_foldl {α : Type} {f : State → α → State} (h : ∀ s x, (f s x).tallies = s.tallies) (l : List α) :
    (l.foldl f s).tallies = s.tallies := by
  induction l generalizing s with
  | nil => rfl
  | cons x xs ih => exact (ih _).trans (h s x)

@[simp] theorem State.tallies_ownGap (lo hi : Nat) : (s.ownGap b lo hi).tallies = s.tallies := by
  unfold State.ownGap
  dsimp only
  split
  · split <;> rfl
  · rfl

@[simp] theorem State.tallies_tellFailure (j : Job) : (s.tellFailure j).tallies = s.tallies := by
  unfold State.tellFailure
  split <;> simp

@[simp] theorem State.tallies_handOver (j : Job) : (s.handOver j).tallies = s.tallies := by
  unfold State.handOver
  split <;> simp

@[simp] theorem State.tallies_writeFrame (i : Nat) (cls : JobClass) (c : BindingCounter) :
    (s.writeFrame b i cls c).tallies = s.tallies := by
  unfold State.writeFrame
  split
  · rfl
  · dsimp only
    split <;> simp

@[simp] theorem State.tallies_writeLive (i : Nat) : (s.writeLive b i).tallies = s.tallies := s.tallies_writeFrame b i _ _

@[simp] theorem State.tallies_place (n : Notice) : (s.place n).tallies = s.tallies := by
  unfold State.place
  split
  · rfl
  · split
    · rfl
    · split <;> rfl

@[simp] theorem State.tallies_offer (n : Notice) : (s.offer n).tallies = s.tallies := by
  unfold State.offer
  split
  · split
    · rfl
    · split
      · split
        · exact s.tallies_place _
        · dsimp only
          split
          · rfl
          · exact State.tallies_place _ _
      · exact s.tallies_place _
  · rfl

@[simp] theorem State.tallies_offerTake : (s.offerTake b).tallies = s.tallies := by
  unfold State.offerTake
  dsimp only
  split
  · split
    · rfl
    · exact s.tallies_offer _
  · rfl

@[simp] theorem State.tallies_promote : (s.promote b).tallies = s.tallies :=
  (State.tallies_foldl _ (fun s (h : Held) => s.tallies_writeLive b h.frame) _).trans rfl

@[simp] theorem State.tallies_viewed (view : Station) : (s.viewed b view).tallies = s.tallies :=
  State.tallies_offerTake _ b

@[simp] theorem State.tallies_changeView (best : Station) : (s.changeView b best).tallies = s.tallies := by
  by_cases own : best = s.opts.station
  · rw [own, State.changeView_of_own, State.tallies_promote, State.tallies_viewed]
  · rw [State.changeView_of_other _ _ own, State.tallies_viewed]

@[simp] theorem State.tallies_evaluate : (s.evaluate b).tallies = s.tallies := by
  unfold State.evaluate
  split
  · exact s.tallies_changeView b _
  · rfl

@[simp] theorem State.tallies_recomputeGrade : (s.recomputeGrade b).tallies = s.tallies := by
  unfold State.recomputeGrade
  dsimp only
  split
  · rfl
  · rw [State.tallies_evaluate, State.tallies_offerTake]
    rfl

end Tallies

/-! ### What telling a failure and regrading leave -/

/-- Work for the recordings of any bindings: what it leaves of a state. -/
structure State.Tells (s u : State) : Prop where
  shell      : s.sameShell u
  link       : s.sameLink u
  now        : u.now = s.now
  sources    : u.sources = s.sources
  recordings : u.recordings = s.recordings
  tallies    : u.tallies = s.tallies

namespace State.Tells

theorem of_worksOn {s u : State} {b : BindingNo} (h : s.worksOn u b) (recordings : u.recordings = s.recordings)
    (tallies : u.tallies = s.tallies) : s.Tells u := by
  obtain ⟨shell, now, sources, -, link⟩ := h
  exact ⟨shell, link, now, sources, recordings, tallies⟩

theorem refl (s : State) : s.Tells s := of_worksOn (s.worksOn_refl 0) rfl rfl

theorem trans {s u v : State} (h : s.Tells u) (k : u.Tells v) : s.Tells v where
  shell := by
    obtain ⟨a1, a2, a3, a4, a5, a6, a7, a8⟩ := h.shell
    obtain ⟨b1, b2, b3, b4, b5, b6, b7, b8⟩ := k.shell
    exact ⟨b1.trans a1, b2.trans a2, b3.trans a3, b4.trans a4, b5.trans a5, b6.trans a6, b7.trans a7, b8.trans a8⟩
  link := by
    obtain ⟨a1, a2, a3, a4, a5, a6⟩ := h.link
    obtain ⟨b1, b2, b3, b4, b5, b6⟩ := k.link
    exact ⟨b1.trans a1, b2.trans a2, b3.trans a3, b4.trans a4, b5.trans a5, b6.trans a6⟩
  now := k.now.trans h.now
  sources := k.sources.trans h.sources
  recordings := k.recordings.trans h.recordings
  tallies := k.tallies.trans h.tallies

theorem foldl {α : Type} {f : State → α → State} (h : ∀ (s : State) (x : α), s.Tells (f s x)) (l : List α) (s : State) :
    s.Tells (l.foldl f s) := by
  induction l generalizing s with
  | nil => exact refl s
  | cons x xs ih => exact (h s x).trans (ih _)

variable {s u : State} (h : s.Tells u)
include h

theorem state (b : BindingNo) : (u.binding b).state = (s.binding b).state := State.state_of_recordings h.recordings b

theorem tag (g : Tag) : u.tag g = s.tag g := by
  obtain ⟨-, -, -, tags, -, -⟩ := h.link
  rw [State.tag, State.tag, tags]

theorem linkState : u.store.link = s.store.link := h.link.1

theorem failures : u.store.failures = s.store.failures := h.link.2.2.1

theorem failed : u.counters.failed = s.counters.failed := (congrArg NodeCounters.failed h.tallies :)

theorem timeouts : u.counters.timeouts = s.counters.timeouts := (congrArg NodeCounters.timeouts h.tallies :)

theorem linkFailures : u.counters.linkFailures = s.counters.linkFailures := (congrArg NodeCounters.linkFailures h.tallies :)

/-- The grade that a binding should have rests on what such work leaves. -/
theorem gradeOf (b : BindingNo) : u.gradeOf b = s.gradeOf b := by
  obtain ⟨-, -, -, opts, -⟩ := h.shell
  have acct := State.acct_of_recordings h.recordings b
  unfold State.gradeOf State.qualityOf
  dsimp only
  rw [h.state, h.linkState, opts, h.sources, acct]

end State.Tells

theorem State.tells_tellFailure (s : State) (j : Job) : s.Tells (s.tellFailure j) :=
  .of_worksOn (s.worksOn_tellFailure j) (s.recordings_tellFailure j) (s.tallies_tellFailure j)

theorem State.tells_recomputeGrade (s : State) (b : BindingNo) : s.Tells (s.recomputeGrade b) :=
  .of_worksOn (s.worksOn_recomputeGrade b) (s.recordings_recomputeGrade b) (s.tallies_recomputeGrade b)

theorem State.tells_giveBack (s : State) (i : Nat) : s.Tells (s.giveBack i) :=
  .of_worksOn (s.worksOn_giveBack 0 i) (s.recordings_giveBack i) (s.tallies_giveBack i)

/-! ### Regrading -/

/-- After a list of bindings is regraded each of them has the grade that it should have. -/
theorem State.grade_foldl_recomputeGrade (l : List BindingNo) : ∀ (s : State) (b : BindingNo),
    (b ∈ l ∨ (s.binding b).acct.grade = s.gradeOf b) →
    ((l.foldl (fun v b => v.recomputeGrade b) s).binding b).acct.grade = (l.foldl (fun v b => v.recomputeGrade b) s).gradeOf b := by
  induction l with
  | nil => exact fun s b h => h.resolve_left List.not_mem_nil
  | cons x xs ih =>
    intro s b h
    refine ih (s.recomputeGrade x) b ?_
    rw [(s.tells_recomputeGrade x).gradeOf]
    by_cases here : b = x
    · subst here
      exact .inr (by rw [State.recomputeGrade_acct])
    · refine h.imp (fun mem => (List.mem_cons.mp mem).resolve_left here) fun settled => ?_
      rw [(s.worksOn_recomputeGrade x).2.2.2.1 b here, settled]

/-- Every active binding regraded: what is left, and the grade of each. -/
theorem State.regradedTo_tells {s u : State} (h : s.regradedTo u) : s.Tells u ∧ s.Keeps u ∧
    ∀ b : BindingNo, (s.binding b).state.active = true → (u.binding b).acct.grade = u.gradeOf b := by
  obtain ⟨l, perm, rfl⟩ := h
  refine ⟨.foldl (fun s b => s.tells_recomputeGrade b) l s, .foldl (fun s b => s.keeps_recomputeGrade b) l s, fun b active => ?_⟩
  refine State.grade_foldl_recomputeGrade l s b (.inl (perm.mem_iff.mpr ?_))
  exact List.mem_filter.mpr ⟨mem_allBindings b, active⟩

theorem State.regradedTo_recomputeGrades (s : State) (order : List Nat) : s.regradedTo (s.recomputeGrades order) :=
  ⟨arrange order s.activeBindings, arrange_perm order _, rfl⟩

/-! ### The operations of the Store Port as changes of the store -/

variable {s : State}

theorem State.updTags_eq_tagsNow (f : TagState → TagState) : s.updTags f = s.tagsNow f := by
  rw [State.updTags_eq]
  refine congrArg (fun tags => { s with store := { s.store with tags := tags } }) (Vector.ext fun i small => ?_)
  rw [Vector.getElem_map]
  exact s.updTags_tag f ⟨i, small⟩

theorem State.endTransactions_eq (kind : JobKind) (frame : Nat) :
    s.endTransactions kind frame = s.tagsNow (fun g => g.ended kind frame) := State.updTags_eq_tagsNow _

theorem State.retireProbes_eq : s.retireProbes = s.tagsNow TagState.unprobed := State.updTags_eq_tagsNow _

theorem State.updJob_eq (j : Job) (f : Job → Job) : s.updJob j f = s.jobNow j f := by
  unfold State.updJob State.jobNow Job.is
  simp only [decide_eq_true_eq]
  rfl

theorem State.dropJob_eq (j : Job) : s.dropJob j = s.jobGone j := by
  unfold State.dropJob State.jobGone Job.is
  simp only [← decide_not]
  rfl

theorem State.failJob_eq (j : Job) :
    s.failJob j = ((s.tagsNow (fun g => g.ended j.kind j.frame)).jobGone j).jobFailed j := by
  unfold State.failJob
  rw [State.endTransactions_eq, State.dropJob_eq, State.tellFailure_eq_jobFailed]

theorem State.leaveUp_eq : s.leaveUp = s.queuesFailed := by
  have ended : (fun (s : State) (j : Job) => s.endTransactions j.kind j.frame) =
      fun x j => x.tagsNow (fun g => g.ended j.kind j.frame) := by
    funext s j
    exact State.endTransactions_eq j.kind j.frame
  have told : (fun (s : State) (j : Job) => s.tellFailure j) = fun x j => x.jobFailed j := by
    funext s j
    exact s.tellFailure_eq_jobFailed j
  unfold State.leaveUp State.queuesFailed
  rw [ended, told]
  rfl

theorem State.removedInFlight_iff (kind : JobKind) (frame : Nat) :
    s.removedInFlight kind frame = true ↔ s.removedFlies kind frame := by
  rw [State.removedInFlight, List.any_eq_true]
  refine exists_congr fun g => (and_iff_right (mem_allTags g)).trans ?_
  cases s.tag g with
  | free | retired => simp
  | busy tx =>
    constructor
    · intro h
      dsimp only at h
      split at h
      · next k b f owner =>
        obtain ⟨rfl, rfl⟩ := of_decide_eq_true h
        exact ⟨tx, b, rfl, owner⟩
      · exact absurd h (by simp)
    · rintro ⟨tx', b, same, owner⟩
      obtain rfl : tx = tx' := TagState.busy.inj same
      dsimp only
      rw [owner]
      exact decide_eq_true ⟨rfl, rfl⟩

/-- A user is given back in the frame table alone. -/
theorem State.giveBack_eq (i : Nat) : s.giveBack i =
    { s with frames := (s.giveBack i).frames, freeCells := (s.giveBack i).freeCells } := by
  obtain ⟨fr, n, h⟩ := s.giveBack_spec i
  rw [h]

theorem State.giveBack_of_frames {u : State} (frames : u.frames = s.frames) (cells : u.freeCells = s.freeCells) (i : Nat) :
    u.giveBack i = { u with frames := (s.giveBack i).frames, freeCells := (s.giveBack i).freeCells } := by
  have found : u.frame? i = s.frame? i := congrArg (fun l : List FrameRecord => l.find? (fun f : FrameRecord => f.index = i)) frames
  cases here : s.frame? i with
  | none => simp only [State.giveBack, found, here, ← frames, ← cells]
  | some f =>
    simp only [State.giveBack, State.freeFrame, State.updFrame, found, here]
    split <;> simp only [frames, cells]

end Sys2Proof.Machine
end

section
/-! The failure of a transaction (R141, R143, R145, R146): what becomes of the transactions in flight, of the queues when the
link leaves UP, and of the failure count. -/

namespace Sys2Proof.Machine

variable {s u v : State}

/-! ### The transactions in flight -/

/-- A tag as it was, or its transaction goes on with its outcome ignored. -/
def TagState.goesOn (x y : TagState) : Prop :=
  y = x ∨ ∃ tx kind b f i, x = .busy tx ∧ tx.owner = .job kind b f i ∧ y = .busy { tx with owner := .ended b }

theorem TagState.goesOn_ended (x : TagState) (kind : JobKind) (frame : Nat) : x.goesOn (x.ended kind frame) := by
  cases x with
  | free | retired => exact .inl rfl
  | busy tx =>
    cases owner : tx.owner with
    | job k b f i =>
      have form : TagState.ended (.busy tx) kind frame =
          if k = kind ∧ f = frame then .busy { tx with owner := .ended b } else .busy tx := by
        unfold TagState.ended
        dsimp only
        rw [owner]
      rw [form]
      split
      · exact .inr ⟨tx, k, b, f, i, rfl, owner, rfl⟩
      · exact .inl rfl
    | ended | removed | probe =>
      refine .inl ?_
      unfold TagState.ended
      dsimp only
      rw [owner]

/-- Every tag of a state is as it was, or its transaction goes on ignored. -/
def State.tagsGoOn (s u : State) : Prop := ∀ g, (s.tag g).goesOn (u.tag g)

theorem State.tagsGoOn_of_eq (h : ∀ g, u.tag g = s.tag g) : s.tagsGoOn u := fun g => .inl (h g)

theorem State.tagsGoOn_trans (h : s.tagsGoOn u) (k : u.tagsGoOn v) : s.tagsGoOn v := by
  intro g
  rcases h g with same | ⟨tx, kind, b, f, i, busy, owner, ended⟩
  · have k := k g
    rwa [same] at k
  · rcases k g with same | ⟨tx', kind', b', f', i', busy', owner', -⟩
    · exact .inr ⟨tx, kind, b, f, i, busy, owner, same.trans ended⟩
    · rw [ended] at busy'
      rw [← TagState.busy.inj busy'] at owner'
      exact nomatch owner'

theorem State.tag_tagsNow (f : TagState → TagState) (g : Tag) : (s.tagsNow f).tag g = f (s.tag g) := by
  rw [← State.updTags_eq_tagsNow, State.updTags_tag]

theorem State.tagsGoOn_ended (kind : JobKind) (frame : Nat) : s.tagsGoOn (s.tagsNow (fun g => g.ended kind frame)) := by
  intro g
  rw [State.tag_tagsNow]
  exact TagState.goesOn_ended _ kind frame

section GoingOn

variable (h : s.tagsGoOn u) {g : Tag}
include h

theorem State.tag_of_goesOn (idle : ∀ tx, s.tag g ≠ .busy tx) : u.tag g = s.tag g :=
  (h g).resolve_right fun ⟨tx, _, _, _, _, busy, _⟩ => idle tx busy

theorem State.busy_of_goesOn {tx : Transaction} (busy : s.tag g = .busy tx) :
    ∃ o, u.tag g = .busy { tx with owner := o } ∧ o.binding? = tx.owner.binding? := by
  rcases h g with same | ⟨tx', kind, b, f, i, busy', owner, ended⟩
  · exact ⟨tx.owner, same.trans busy, rfl⟩
  · obtain rfl : tx = tx' := TagState.busy.inj (busy.symm.trans busy')
    exact ⟨.ended b, ended, by rw [owner]; rfl⟩

theorem State.probe_of_goesOn {tx : Transaction} (busy : s.tag g = .busy tx) (probe : tx.owner.binding? = none) :
    u.tag g = .busy tx := by
  rcases h g with same | ⟨tx', kind, b, f, i, busy', owner, -⟩
  · exact same.trans busy
  · obtain rfl : tx = tx' := TagState.busy.inj (busy.symm.trans busy')
    rw [owner] at probe
    exact nomatch probe

end GoingOn

/-! ### Failing jobs -/

/-- What the failing of jobs leaves: all that telling leaves, and the transactions go on. -/
structure State.Fails (s u : State) : Prop where
  shell        : s.sameShell u
  now          : u.now = s.now
  sources      : u.sources = s.sources
  recordings   : u.recordings = s.recordings
  tallies      : u.tallies = s.tallies
  link         : u.store.link = s.store.link
  training     : u.store.trainingSince = s.store.trainingSince
  failures     : u.store.failures = s.store.failures
  nextProbe    : u.store.nextProbe = s.store.nextProbe
  tags         : s.tagsGoOn u

namespace State.Fails

theorem of_tells (h : s.Tells u) : s.Fails u := by
  obtain ⟨link, training, failures, -, -, nextProbe⟩ := h.link
  exact ⟨h.shell, h.now, h.sources, h.recordings, h.tallies, link, training, failures, nextProbe, State.tagsGoOn_of_eq h.tag⟩

/-- A change of the queues, their values, the hold and the transactions. -/
theorem of_store {st : Store} (link : st.link = s.store.link) (training : st.trainingSince = s.store.trainingSince)
    (failures : st.failures = s.store.failures) (nextProbe : st.nextProbe = s.store.nextProbe)
    (tags : s.tagsGoOn { s with store := st }) : s.Fails { s with store := st } :=
  ⟨⟨rfl, rfl, rfl, rfl, rfl, rfl, rfl, rfl⟩, rfl, rfl, rfl, rfl, link, training, failures, nextProbe, tags⟩

theorem refl (s : State) : s.Fails s := of_tells (.refl s)

theorem trans (h : s.Fails u) (k : u.Fails v) : s.Fails v where
  shell := by
    obtain ⟨a1, a2, a3, a4, a5, a6, a7, a8⟩ := h.shell
    obtain ⟨b1, b2, b3, b4, b5, b6, b7, b8⟩ := k.shell
    exact ⟨b1.trans a1, b2.trans a2, b3.trans a3, b4.trans a4, b5.trans a5, b6.trans a6, b7.trans a7, b8.trans a8⟩
  now := k.now.trans h.now
  sources := k.sources.trans h.sources
  recordings := k.recordings.trans h.recordings
  tallies := k.tallies.trans h.tallies
  link := k.link.trans h.link
  training := k.training.trans h.training
  failures := k.failures.trans h.failures
  nextProbe := k.nextProbe.trans h.nextProbe
  tags := State.tagsGoOn_trans h.tags k.tags

theorem foldl {α : Type} {f : State → α → State} (h : ∀ (s : State) (x : α), s.Fails (f s x)) (l : List α) (s : State) :
    s.Fails (l.foldl f s) := by
  induction l generalizing s with
  | nil => exact refl s
  | cons x xs ih => exact (h s x).trans (ih _)

variable (h : s.Fails u)
include h

theorem state (b : BindingNo) : (u.binding b).state = (s.binding b).state := State.state_of_recordings h.recordings b

theorem failed : u.counters.failed = s.counters.failed := (congrArg NodeCounters.failed h.tallies :)

theorem timeouts : u.counters.timeouts = s.counters.timeouts := (congrArg NodeCounters.timeouts h.tallies :)

theorem linkFailures : u.counters.linkFailures = s.counters.linkFailures := (congrArg NodeCounters.linkFailures h.tallies :)

end State.Fails

theorem State.fails_tagsNow (kind : JobKind) (frame : Nat) : s.Fails (s.tagsNow (fun g => g.ended kind frame)) :=
  .of_store rfl rfl rfl rfl (State.tagsGoOn_ended kind frame)

theorem State.fails_jobGone (j : Job) : s.Fails (s.jobGone j) := by
  unfold State.jobGone
  cases j.cls <;> exact .of_store rfl rfl rfl rfl (State.tagsGoOn_of_eq fun _ => rfl)

theorem State.fails_jobFailed (j : Job) : s.Fails (s.jobFailed j) := by
  rw [← State.tellFailure_eq_jobFailed]
  exact .of_tells (s.tells_tellFailure j)

/-- Every queued job fails as the link leaves UP (R146). -/
theorem State.fails_queuesFailed : s.Fails s.queuesFailed := by
  have emptied : s.Fails { s with store := { s.store with
      live := [], fill := [], browse := [], currentLive := 0, currentFill := 0, currentBrowse := 0, pacing := none } } :=
    .of_store rfl rfl rfl rfl (State.tagsGoOn_of_eq fun _ => rfl)
  exact (emptied.trans (.foldl (fun _ (j : Job) => State.fails_tagsNow j.kind j.frame) _ _)).trans
    (.foldl (fun _ j => State.fails_jobFailed j) _ _)

/-- What stands once the queues are empty while the link is not UP: they stay empty, their values 0 and no hold runs. -/
structure State.Down (s : State) : Prop where
  queues : s.queuesLawful
  pacing : s.store.pacing = none
  link   : s.store.link ≠ .up

theorem State.Down.of_keeps (h : s.Down) (keeps : s.Keeps u) (same : s.sameLink u) : u.Down := by
  obtain ⟨link, -, -, -, pacing, -⟩ := same
  exact ⟨keeps.queues h.queues, pacing.trans h.pacing, by rw [link]; exact h.link⟩

theorem State.Down.downTo (h : s.Down) : s.store.downTo s.store.link := by
  refine ⟨rfl, fun c => ?_, h.pacing⟩
  obtain ⟨-, -, empty, zero⟩ := h.queues c
  exact ⟨empty h.link, zero (empty h.link)⟩

theorem State.Down.tells {α : Type} {f : State → α → State} (keeps : ∀ (s : State) x, s.Keeps (f s x))
    (tells : ∀ (s : State) x, s.Tells (f s x)) (l : List α) (h : s.Down) : (l.foldl f s).Down :=
  h.of_keeps (.foldl keeps l s) (State.Tells.foldl tells l s).link

theorem State.down_queuesFailed (link : s.store.link ≠ .up) : s.queuesFailed.Down := by
  have emptied : State.Down { s with store := { s.store with
      live := [], fill := [], browse := [], currentLive := 0, currentFill := 0, currentBrowse := 0, pacing := none } } := by
    refine ⟨fun c => ?_, rfl, link⟩
    cases c <;> exact ⟨Nat.zero_le _, fun j hj => absurd hj List.not_mem_nil, fun _ => rfl, fun _ => rfl⟩
  have ended : ∀ (jobs : List Job) (v : State), v.Down →
      (jobs.foldl (fun x j => x.tagsNow (fun g => g.ended j.kind j.frame)) v).Down := by
    intro jobs
    induction jobs with
    | nil => exact fun v h => h
    | cons j js ih =>
      intro v h
      refine ih _ ⟨fun c => ?_, h.pacing, h.link⟩
      have law := h.queues c
      cases c <;> exact law
  have told : ∀ (jobs : List Job) (v : State), v.Down → (jobs.foldl (fun x j => x.jobFailed j) v).Down := by
    intro jobs v h
    have same : (fun (x : State) (j : Job) => x.jobFailed j) = fun x j => x.tellFailure j := by
      funext x j
      exact (x.tellFailure_eq_jobFailed j).symm
    rw [same]
    exact State.Down.tells (fun s j => s.keeps_tellFailure j) (fun s j => s.tells_tellFailure j) jobs h
  exact told _ _ (ended _ _ emptied)

/-- After the link has left UP and every binding is regraded, every grade is 0. -/
theorem State.grade_of_regraded (h : s.regradedTo u) (link : s.store.link ≠ .up) (b : BindingNo)
    (active : (s.binding b).state.active = true) : (u.binding b).acct.grade = 0 := by
  obtain ⟨tells, -, grades⟩ := State.regradedTo_tells h
  rw [grades b active]
  exact if_pos (.inr (.inr (by rw [tells.linkState]; exact link)))

theorem State.down_of_regraded (h : s.regradedTo u) (down : s.Down) : u.Down := by
  obtain ⟨tells, keeps, -⟩ := State.regradedTo_tells h
  exact down.of_keeps keeps tells.link

/-! ### The failure count (R145) -/

/-- What a failed transaction comes to before it is counted against the link. -/
def State.endsAs (s x : State) (owner : TxOwner) : Prop :=
  let v : State := { s with counters := { s.counters with failed := oneMore s.counters.failed } }
  (∀ kind b frame i, owner = .job kind b frame i →
    (∀ j, s.store.jobOf kind frame = some j →
      x = ((v.tagsNow (fun g => g.ended j.kind j.frame)).jobGone j).jobFailed j) ∧
    (s.store.jobOf kind frame = none → x = v)) ∧
  (∀ b, owner = .ended b → x = v) ∧
  (∀ kind b frame, owner = .removed kind b frame →
    (s.removedFlies kind frame → x = v) ∧ (¬ s.removedFlies kind frame → x = v.giveBack frame))

theorem State.endsAs_job {kind : JobKind} {b : BindingNo} {frame i : Nat} {x : State}
    (found : ∀ j, s.store.jobOf kind frame = some j → x = s.countFailed.failJob j)
    (gone : s.store.jobOf kind frame = none → x = s.countFailed) : s.endsAs x (.job kind b frame i) := by
  refine ⟨fun _ _ _ _ same => ?_, fun _ same => (nomatch same), fun _ _ _ same => (nomatch same)⟩
  cases same
  refine ⟨fun j here => (found j here).trans ?_, gone⟩
  rw [State.failJob_eq]
  rfl

theorem State.endsAs_ended (b : BindingNo) : s.endsAs s.countFailed (.ended b) :=
  ⟨fun _ _ _ _ same => (nomatch same), fun _ _ => rfl, fun _ _ _ same => (nomatch same)⟩

theorem State.endsAs_removed {kind : JobKind} {b : BindingNo} {frame : Nat} {x : State}
    (flies : s.removedFlies kind frame → x = s.countFailed)
    (last : ¬ s.removedFlies kind frame → x = s.countFailed.giveBack frame) : s.endsAs x (.removed kind b frame) := by
  refine ⟨fun _ _ _ _ same => (nomatch same), fun _ same => (nomatch same), fun _ _ _ same => ?_⟩
  cases same
  exact ⟨flies, last⟩

/-- The link enters FAILED, before its queues are emptied. -/
def State.linkFailed (s : State) : State :=
  { s with
    store := { s.store with link := .failed, nextProbe := some (msTime s.now + ms 100) }
    counters := { s.counters with linkFailures := oneMore s.counters.linkFailures } }

theorem State.countFailure_of_spared (order : List Nat) (spared : s.store.failures < 2 ∨ s.store.link ≠ .up) :
    s.countFailure order = s.failuresAt (min 3 (s.store.failures + 1)) := by
  refine if_neg ?_
  rintro ⟨three, up⟩
  rcases spared with few | down
  · omega
  · exact down up

theorem State.countFailure_of_third (order : List Nat) (third : 2 ≤ s.store.failures) (up : s.store.link = .up) :
    s.countFailure order = ((s.failuresAt (min 3 (s.store.failures + 1))).linkFailed.queuesFailed).recomputeGrades order := by
  refine (if_pos ⟨by omega, up⟩).trans ?_
  refine Eq.trans (b := (State.leaveUp (s.failuresAt (min 3 (s.store.failures + 1))).linkFailed).recomputeGrades order) rfl ?_
  rw [State.leaveUp_eq]

/-- What a failed transaction leaves, from the state in which its tag has been given up. -/
structure State.Failed (s u : State) : Prop where
  failed   : u.counters.failed = oneMore s.counters.failed
  timeouts : u.counters.timeouts = s.counters.timeouts
  failures : u.store.failures = min 3 (s.store.failures + 1)
  tags     : s.tagsGoOn u
  down     : 2 ≤ s.store.failures → s.store.link = .up → u.store.downTo .failed ∧
    ∀ b : BindingNo, (s.binding b).state.active = true → (u.binding b).acct.grade = 0

theorem State.fails_of_endsAs {x : State} {owner : TxOwner} (ends : s.endsAs x owner) (no_probe : ∀ d, owner ≠ .probe d) :
    State.Fails { s with counters := { s.counters with failed := oneMore s.counters.failed } } x := by
  obtain ⟨job, ended, removed⟩ := ends
  cases owner with
  | job kind b frame i =>
    obtain ⟨found, gone⟩ := job kind b frame i rfl
    cases here : s.store.jobOf kind frame with
    | none => rw [gone here]; exact .refl _
    | some j =>
      rw [found j here]
      exact ((State.fails_tagsNow _ _).trans (State.fails_jobGone j)).trans (State.fails_jobFailed j)
  | ended b => rw [ended b rfl]; exact .refl _
  | removed kind b frame =>
    obtain ⟨flies, last⟩ := removed kind b frame rfl
    by_cases flying : s.removedFlies kind frame
    · rw [flies flying]; exact .refl _
    · rw [last flying]; exact .of_tells (State.tells_giveBack _ _)
  | probe d => exact absurd rfl (no_probe d)

/-- A failed transaction counted against the link, as the statements say it and with what it leaves. -/
theorem State.failsTo_countFailure {x : State} {owner : TxOwner} (ends : s.endsAs x owner) (no_probe : ∀ d, owner ≠ .probe d)
    (order : List Nat) : s.failsTo (x.countFailure order) owner ∧ s.Failed (x.countFailure order) := by
  have fails := State.fails_of_endsAs ends no_probe
  have failures : x.store.failures = s.store.failures := fails.failures
  have link : x.store.link = s.store.link := fails.link
  have linkFailures : x.counters.linkFailures = s.counters.linkFailures := fails.linkFailures
  have now : x.now = s.now := fails.now
  have failed : x.counters.failed = oneMore s.counters.failed := fails.failed
  have timeouts : x.counters.timeouts = s.counters.timeouts := fails.timeouts
  have tags : s.tagsGoOn x := fails.tags
  have state : ∀ b, (x.binding b).state = (s.binding b).state := fails.state
  obtain ⟨job, ended, removed⟩ := ends
  by_cases third : 2 ≤ s.store.failures ∧ s.store.link = .up
  · obtain ⟨many, up⟩ := third
    have counted := State.countFailure_of_third (s := x) order (by rw [failures]; exact many) (by rw [link]; exact up)
    rw [failures] at counted
    generalize hy : x.failuresAt (min 3 (s.store.failures + 1)) = y at counted
    have regraded := State.regradedTo_recomputeGrades y.linkFailed.queuesFailed order
    rw [← counted] at regraded
    have emptied := State.fails_queuesFailed (s := y.linkFailed)
    have told := (State.regradedTo_tells regraded).1
    have down := State.down_of_regraded regraded (State.down_queuesFailed (s := y.linkFailed) (by simp [State.linkFailed]))
    have all := emptied.trans (.of_tells told)
    refine ⟨⟨x, y, job, ended, removed, hy.symm, fun spared => ?_, fun _ _ => ?_⟩, ?_⟩
    · exact absurd spared (by rw [not_or, not_lt, not_not]; exact ⟨many, up⟩)
    · have same : y.linkFailed = { y with
          store := { y.store with link := .failed, nextProbe := some (msTime s.now + ms 100) }
          counters := { y.counters with linkFailures := oneMore s.counters.linkFailures } } := by
        rw [← linkFailures, ← now, ← hy]
        rfl
      rw [← same]
      exact regraded
    · refine ⟨all.failed.trans ?_, all.timeouts.trans ?_, all.failures.trans ?_, State.tagsGoOn_trans ?_ all.tags, fun _ _ => ⟨?_, ?_⟩⟩
      · rw [← hy]; exact failed
      · rw [← hy]; exact timeouts
      · rw [← hy]; rfl
      · rw [← hy]; exact tags
      · have link_down := down.downTo
        rwa [all.link] at link_down
      · intro b active
        refine State.grade_of_regraded regraded (by rw [emptied.link]; simp [State.linkFailed]) b ?_
        rw [emptied.state, ← hy]
        exact (congrArg BindingState.active (state b)).trans active
  · have spared : s.store.failures < 2 ∨ s.store.link ≠ .up := by
      rcases Nat.lt_or_ge s.store.failures 2 with few | many
      · exact .inl few
      · exact .inr fun up => third ⟨many, up⟩
    have counted := State.countFailure_of_spared (s := x) order (by rw [failures, link]; exact spared)
    rw [failures] at counted
    refine ⟨⟨x, _, job, ended, removed, rfl, fun _ => counted, fun many up => absurd ⟨many, up⟩ third⟩, ?_⟩
    rw [counted]
    exact ⟨failed, timeouts, rfl, tags, fun many up => absurd ⟨many, up⟩ third⟩

end Sys2Proof.Machine
end

section
/-! Completions (R132 to R134, R139 to R141, R145, R147, R149). -/

namespace Sys2Proof.Machine

variable {s : State} {g : Tag} {tx : Transaction}

/-! ### The endings of a transaction -/

theorem State.complete_of_busy (busy : s.tag g = .busy tx) (status : Status) (order : List Nat) :
    s.complete g status order = (s.tagged g .free s.store.failures).endTransaction tx status order := by
  unfold State.complete
  rw [busy]
  rfl

theorem State.complete_of_idle (idle : ∀ tx, s.tag g ≠ .busy tx) (status : Status) (order : List Nat) :
    s.complete g status order = { s with counters := { s.counters with stray := oneMore s.counters.stray } } := by
  unfold State.complete
  split
  · next tx busy => exact absurd busy (idle tx)
  · rfl

variable {kind : JobKind} {b : BindingNo} {frame i : Nat} {j : Job} {status : Status} {order : List Nat}

theorem State.endTransaction_of_job (owner : tx.owner = .job kind b frame i) (found : s.store.jobOf kind frame = some j) :
    s.endTransaction tx status order =
      (match status with
      | .ok => s.clearFailures.transactionOk j
      | .retry => if i ∈ j.retried then s.transactionFailed j order else s.transactionRetry j i
      | .fault => s.transactionFailed j order) := by
  cases status <;> simp only [State.endTransaction, owner, found]

theorem State.endTransaction_of_no_job (owner : tx.owner = .job kind b frame i) (gone : s.store.jobOf kind frame = none) :
    s.endTransaction tx status order = s.ignoredOutcome tx.retried status order := by
  unfold State.endTransaction
  rw [owner]
  dsimp only
  rw [gone]

theorem State.endTransaction_of_ended (owner : tx.owner = .ended b) :
    s.endTransaction tx status order = s.ignoredOutcome tx.retried status order := by
  unfold State.endTransaction
  rw [owner]

theorem State.endTransaction_of_removed (owner : tx.owner = .removed kind b frame) :
    s.endTransaction tx status order = (s.endRemoved kind frame).ignoredOutcome tx.retried status order := by
  unfold State.endTransaction
  rw [owner]

theorem State.endTransaction_of_probe {decides : Bool} (owner : tx.owner = .probe decides) :
    s.endTransaction tx status order =
      if decides ∧ status = .ok ∧ s.store.link = .failed then s.enterUp order else s := by
  unfold State.endTransaction
  rw [owner]

theorem State.endRemoved_of_flies (flies : s.removedFlies kind frame) : s.endRemoved kind frame = s :=
  if_pos ((State.removedInFlight_iff kind frame).mpr flies)

theorem State.endRemoved_of_last (last : ¬ s.removedFlies kind frame) : s.endRemoved kind frame = s.giveBack frame :=
  if_neg (last ∘ (State.removedInFlight_iff kind frame).mp)

theorem State.retryIgnored_eq (retried : Bool) : (if retried then s.countFailed else s) = s.retryIgnored retried := by
  cases retried <;> rfl

/-- The failure of a transaction that is no probe (R141). -/
theorem State.failsTo_endTransaction (no_probe : ∀ d, tx.owner ≠ .probe d) (order : List Nat) :
    s.failsTo (s.endTransaction tx .fault order) tx.owner ∧ s.Failed (s.endTransaction tx .fault order) := by
  have counted : ∀ x, s.endsAs x tx.owner → s.endTransaction tx .fault order = x.countFailure order →
      s.failsTo (s.endTransaction tx .fault order) tx.owner ∧ s.Failed (s.endTransaction tx .fault order) := by
    intro x ends same
    rw [same]
    exact State.failsTo_countFailure ends no_probe order
  cases owner : tx.owner with
  | job kind b frame i =>
    rw [← owner]
    cases found : s.store.jobOf kind frame with
    | none =>
      refine counted s.countFailed ?_ (State.endTransaction_of_no_job owner found)
      rw [owner]
      exact State.endsAs_job (fun j h => nomatch found.symm.trans h) fun _ => rfl
    | some j =>
      refine counted (s.countFailed.failJob j) ?_ (State.endTransaction_of_job owner found)
      rw [owner]
      refine State.endsAs_job (fun j' h => ?_) fun h => nomatch found.symm.trans h
      rw [Option.some.inj (found.symm.trans h)]
  | ended b =>
    rw [← owner]
    refine counted s.countFailed ?_ (State.endTransaction_of_ended owner)
    rw [owner]
    exact State.endsAs_ended b
  | removed kind b frame =>
    rw [← owner]
    refine counted (s.endRemoved kind frame).countFailed ?_ (State.endTransaction_of_removed owner)
    rw [owner]
    refine State.endsAs_removed (fun flies => ?_) fun last => ?_
    · rw [State.endRemoved_of_flies flies]
    · rw [State.endRemoved_of_last last, State.giveBack_of_frames (s := s) (u := s.countFailed) rfl rfl, State.giveBack_eq]
      rfl
  | probe d => exact absurd owner (no_probe d)

/-! ### A completion OK -/

theorem State.clearFailures_giveBack (i : Nat) : (s.giveBack i).clearFailures = s.clearFailures.giveBack i := by
  rw [State.giveBack_of_frames (s := s) (u := s.clearFailures) rfl rfl, State.giveBack_eq]
  rfl

theorem State.transactionOk_of_more (more : 1 < j.left) :
    s.transactionOk j = s.jobNow j (fun x => { x with left := x.left - 1 }) := by
  rw [← State.updJob_eq]
  exact if_pos more

theorem State.transactionOk_of_bodies (last : j.left ≤ 1) (phase : j.phase = .body) :
    s.transactionOk j = s.jobNow j (fun x =>
      { x with
        phase := .records
        todo := List.range (if j.kind = .essence then (j.stop - j.start + 2047) / 2048 else 1)
        left := if j.kind = .essence then (j.stop - j.start + 2047) / 2048 else 1
        retried := [] }) := by
  have records : recordTransactions j = if j.kind = .essence then (j.stop - j.start + 2047) / 2048 else 1 := by
    unfold recordTransactions
    cases j.kind <;> rfl
  rw [← State.updJob_eq, ← records]
  refine (if_neg (Nat.not_lt.mpr last)).trans ?_
  rw [phase]

theorem State.transactionOk_of_records (last : j.left ≤ 1) (phase : j.phase = .records) :
    s.transactionOk j = s.resolveJob j := by
  refine (if_neg (Nat.not_lt.mpr last)).trans ?_
  rw [phase]

theorem State.jobGone_binding (x : BindingNo) : (s.jobGone j).binding x = s.binding x := rfl

theorem State.resolveJob_of_browse (active : (s.binding j.binding).state.active = true) (browse : j.kind = .browse) :
    s.resolveJob j = ((s.jobGone j).updBinding j.binding (fun q =>
      q.counting (fun c => { c with browseFrames := oneMore c.browseFrames }))).giveBack j.frame := by
  unfold State.resolveJob
  rw [browse, State.dropJob_eq]
  dsimp only
  rw [State.count_of_active (s := s.jobGone j) active]
  rfl

theorem State.resolveJob_of_essence (active : (s.binding j.binding).state.active = true) (essence : j.kind = .essence)
    (bounded : (s.binding j.binding).coord.bounded) {v : State} {yields : Held → Bool}
    (hv : v = (s.jobGone j).insertExtent j.binding .ownWritten j.start j.stop)
    (yielding : v.yieldsTo j.binding [(j.start, j.stop)] yields) :
    s.resolveJob j =
      ((v.heldYielded j.binding yields).report j.binding ⟨j.start, j.stop, .written⟩).giveBack j.frame := by
  have told : v.told = (s.jobGone j).told := by
    rw [hv]
    exact State.told_insertExtent _ _ _ _ _
  have ordered : mapOrdered (v.binding j.binding).coord.map := by
    rw [hv]
    exact State.insertExtent_ordered (s := s.jobGone j) bounded.1 .ownWritten j.start j.stop
  have yielded := State.yieldCovered_eq (by rw [State.state_of_told told]; exact active) ordered yielding
  rw [State.effEnd_of_told told] at yielded
  unfold State.resolveJob
  rw [essence, State.dropJob_eq]
  dsimp only
  rw [← hv, yielded]

/-- Settles O47: a stray completion, and one of status OK by the owner of its transaction. -/
theorem completionOk : Obligations.CompletionOk := by
  intro t g status order s
  refine ⟨fun idle => congrArg Host.Outcome.next (State.complete_of_idle (s := s.atTime t) idle status order), ?_⟩
  intro tx w busy hw
  have arm : exec (.storeCompletion t g .ok order) s =
      .next (((s.atTime t).tagged g .free s.store.failures).endTransaction tx .ok order) :=
    congrArg Host.Outcome.next (State.complete_of_busy (s := s.atTime t) busy .ok order)
  have cleared : ((s.atTime t).tagged g .free s.store.failures).clearFailures = w := hw.symm
  rw [arm]
  refine ⟨fun kind b frame i j owner found => ?_, fun b owner => ?_, fun kind b frame owner => ?_, fun decides owner => ?_⟩
  · have ended : ((s.atTime t).tagged g .free s.store.failures).endTransaction tx .ok order = w.transactionOk j := by
      rw [State.endTransaction_of_job (s := (s.atTime t).tagged g .free s.store.failures) owner found, ← cleared]
    rw [ended]
    refine ⟨fun more => by rw [State.transactionOk_of_more more],
      fun last phase => by rw [State.transactionOk_of_bodies last phase], fun last phase active => ?_⟩
    rw [State.transactionOk_of_records last phase]
    have active' : (w.binding j.binding).state.active = true := by rw [hw]; exact active
    refine ⟨fun browse => by rw [State.resolveJob_of_browse active' browse], fun essence bounded v yields hv yielding => ?_⟩
    rw [State.resolveJob_of_essence active' essence (by rw [hw]; exact bounded) hv yielding]
  · rw [State.endTransaction_of_ended owner]
    exact congrArg _ cleared
  · rw [State.endTransaction_of_removed owner]
    refine ⟨fun flies => ?_, fun last => ?_⟩
    · rw [hw] at flies
      rw [State.endRemoved_of_flies (s := (s.atTime t).tagged g .free s.store.failures) flies]
      exact congrArg _ cleared
    · rw [hw] at last
      rw [State.endRemoved_of_last (s := (s.atTime t).tagged g .free s.store.failures) last]
      refine congrArg _ (Eq.trans (State.clearFailures_giveBack frame) ?_)
      rw [cleared]
  · rw [State.endTransaction_of_probe owner]
    refine ⟨fun ⟨deciding, down⟩ => ⟨_, congrArg _ (if_pos ⟨deciding, rfl, down⟩), ?_⟩, fun spared => congrArg _ (if_neg ?_)⟩
    · have regraded := State.regradedTo_recomputeGrades
        (({ w with store := { w.store with link := .up, nextProbe := none } } : State)) order
      obtain ⟨tells, -, grades⟩ := State.regradedTo_tells regraded
      have same : ((s.atTime t).tagged g .free s.store.failures).enterUp order =
          (({ w with store := { w.store with link := .up, nextProbe := none } } : State)).recomputeGrades order := by
        rw [hw]
        rfl
      rw [same]
      refine ⟨regraded, tells.linkState, tells.failures.trans (by rw [hw]; rfl), tells.link.2.2.2.2.2, (tells.tag g).trans ?_,
        fun b active => grades b (by rw [hw]; exact active)⟩
      rw [hw]
      exact (State.setTag_tag s g g .free).trans (if_pos rfl)
    · rintro ⟨deciding, -, down⟩
      rcases spared with no | up
      · rw [no] at deciding
        exact nomatch deciding
      · exact up down

end Sys2Proof.Machine
end

section
/-! Transactions that fail, the timers of the Store Port, and the link (R137, R140 to R147, R149). -/

namespace Sys2Proof.Machine

variable {s : State} {g : Tag} {tx : Transaction}

/-- A first RETRY puts the transaction in front of its job's again (R140). -/
theorem State.transactionRetry_eq (j : Job) (i : Nat) : s.transactionRetry j i =
    { s.jobNow j (fun x => { x with todo := i :: x.todo, retried := i :: x.retried }) with
      counters := { s.counters with retries := oneMore s.counters.retries } } := by
  rw [← State.updJob_eq]
  rfl

theorem State.ignoredOutcome_retry (retried : Bool) (order : List Nat) :
    s.ignoredOutcome retried .retry order = s.retryIgnored retried := State.retryIgnored_eq retried

/-- A second RETRY fails its transaction as a FAULT does (R141). -/
theorem State.endTransaction_retried {kind : JobKind} {b : BindingNo} {frame i : Nat} {j : Job}
    (owner : tx.owner = .job kind b frame i) (found : s.store.jobOf kind frame = some j) (again : i ∈ j.retried) (order : List Nat) :
    s.endTransaction tx .retry order = s.endTransaction tx .fault order := by
  rw [State.endTransaction_of_job owner found, State.endTransaction_of_job owner found]
  exact if_pos again

theorem State.tag_tagged (g x : Tag) (v : TagState) (n : Nat) : (s.tagged g v n).tag x = if x = g then v else s.tag x :=
  State.setTag_tag s g x v

/-- Settles O48: each answer that is not OK by the owner of its transaction. -/
theorem completionFails : Obligations.CompletionFails := by
  intro t g status order s w tx busy bad hw
  have arm : ∀ status, exec (.storeCompletion t g status order) s = .next (w.endTransaction tx status order) := by
    intro status
    rw [hw]
    exact congrArg Host.Outcome.next (State.complete_of_busy (s := s.atTime t) busy status order)
  have jobs : w.store.jobOf = s.store.jobOf := by rw [hw]; rfl
  refine ⟨fun kind b frame i j owner found retry => ?_, fun fault no_probe => ?_, fun retry => ⟨fun b owner => ?_,
    fun kind b frame i owner gone => ?_, fun kind b frame owner => ⟨fun flies => ?_, fun last => ?_⟩⟩, fun decides owner => ?_⟩
  · have here : w.store.jobOf kind frame = some j := by rw [jobs]; exact found
    subst retry
    refine ⟨fun first => ?_, fun again => ⟨_, arm .retry, ?_⟩⟩
    · rw [arm, State.endTransaction_of_job owner here]
      refine congrArg _ ((if_neg first).trans ?_)
      rw [State.transactionRetry_eq, hw]
      rfl
    · rw [State.endTransaction_retried owner here again]
      exact (State.failsTo_endTransaction (by rw [owner]; exact fun d h => nomatch h) order).1
  · subst fault
    obtain ⟨fails, after⟩ := State.failsTo_endTransaction (s := w) no_probe order
    refine ⟨_, arm .fault, fails, after.failed.trans ?_, ?_, after.failures.trans ?_, fun y tx' other flying => ?_, fun many up => ?_⟩
    · rw [hw]; rfl
    · have free : w.tag g = .free := by
        rw [hw]
        exact (State.tag_tagged g g .free _).trans (if_pos rfl)
      rw [State.tag_of_goesOn after.tags (by rw [free]; exact fun tx h => nomatch h), free]
    · rw [hw]; rfl
    · refine State.busy_of_goesOn after.tags ?_
      rw [hw]
      exact (State.tag_tagged g y .free _).trans ((if_neg other).trans flying)
    · obtain ⟨down, grades⟩ := after.down (by rw [hw]; exact many) (by rw [hw]; exact up)
      exact ⟨down, fun x active => grades x (by rw [hw]; exact active)⟩
  · rw [arm, retry, State.endTransaction_of_ended owner, State.ignoredOutcome_retry]
  · rw [arm, retry, State.endTransaction_of_no_job owner (by rw [jobs]; exact gone), State.ignoredOutcome_retry]
  · rw [arm, retry, State.endTransaction_of_removed owner, State.endRemoved_of_flies flies, State.ignoredOutcome_retry]
  · rw [arm, retry, State.endTransaction_of_removed owner, State.endRemoved_of_last last, State.ignoredOutcome_retry]
  · rw [arm, State.endTransaction_of_probe owner]
    exact congrArg _ (if_neg fun h => bad h.2.1)

/-! ### Timers -/

theorem State.timeOut_of_idle (idle : ∀ tx, s.tag g ≠ .busy tx) (order : List Nat) : s.timeOut g order = s := by
  unfold State.timeOut
  split
  · next tx busy => exact absurd busy (idle tx)
  · rfl

theorem State.timeOut_of_early (busy : s.tag g = .busy tx) (early : ¬ reached s.now tx.deadline = true) (order : List Nat) :
    s.timeOut g order = s := by
  unfold State.timeOut
  rw [busy]
  exact if_neg early

/-- The tag of a transaction that has timed out is retired, and the timeout is counted (R142). -/
def State.timedOut (s : State) (g : Tag) : State :=
  { s.tagged g (.retired (s.now + ms s.opts.storeTimeout)) s.store.failures with
    counters := { s.counters with timeouts := oneMore s.counters.timeouts } }

theorem State.timeOut_of_probe (busy : s.tag g = .busy tx) (due : reached s.now tx.deadline = true) {decides : Bool}
    (owner : tx.owner = .probe decides) (order : List Nat) : s.timeOut g order = s.timedOut g := by
  unfold State.timeOut
  rw [busy]
  refine (if_pos due).trans ?_
  rw [owner]
  rfl

theorem State.timeOut_of_due (busy : s.tag g = .busy tx) (due : reached s.now tx.deadline = true)
    (no_probe : ∀ d, tx.owner ≠ .probe d) (order : List Nat) :
    s.timeOut g order = (s.timedOut g).endTransaction tx .fault order := by
  unfold State.timeOut
  rw [busy]
  refine (if_pos due).trans ?_
  cases owner : tx.owner with
  | probe d => exact absurd owner (no_probe d)
  | job | ended | removed => rfl

theorem State.holdPassed_iff (h : PacingHold) : s.holdPassed h = true ↔ h.ns < ((s.now - h.since).toNat + 1) * 1000 :=
  decide_eq_true_iff

theorem exec_tagRetirementEnd (t : Time) (g : Tag) (s : State) : exec (.tagRetirementEnd t g) s =
    .next (match s.tag g with
      | .free => s.atTime t
      | .busy _ => s.atTime t
      | .retired release => if reached t release then (s.atTime t).setTag g .free else s.atTime t) := rfl

theorem exec_pacingHoldEnd (t : Time) (s : State) : exec (.pacingHoldEnd t) s =
    .next (match s.store.pacing with
      | none => s.atTime t
      | some h => if (s.atTime t).holdPassed h then (s.atTime t).updStore (fun st => { st with pacing := none }) else s.atTime t) :=
  rfl

/-- Settles O49: the timers of a busy tag, of a retired one and of the pacing hold, at and before their times. -/
theorem storeTimers : Obligations.StoreTimers := by
  intro t g order s
  refine ⟨fun tx busy => ⟨fun early => ?_, fun due w hw => ?_⟩,
    fun idle => congrArg _ (State.timeOut_of_idle (s := s.atTime t) idle order), fun time retired => ?_, fun other => ?_,
    fun h held => ⟨fun passed => ?_, fun running => ?_⟩, fun none_held => ?_⟩
  · exact congrArg _ (State.timeOut_of_early (s := s.atTime t) busy ((not_reached_iff t tx.deadline).mpr early) order)
  · have due : reached (s.atTime t).now tx.deadline = true := (reached_iff t tx.deadline).mpr due
    replace hw : w = (s.atTime t).timedOut g := hw
    refine ⟨fun decides owner => ?_, fun no_probe => ?_⟩
    · rw [hw]
      exact congrArg _ (State.timeOut_of_probe (s := s.atTime t) busy due owner order)
    · obtain ⟨fails, after⟩ := State.failsTo_endTransaction (s := w) no_probe order
      refine ⟨w.endTransaction tx .fault order, ?_, fails, ?_, after.timeouts.trans ?_, after.failed.trans ?_,
        after.failures.trans ?_, fun many up => ?_⟩
      · rw [hw]
        exact congrArg _ (State.timeOut_of_due (s := s.atTime t) busy due no_probe order)
      · have retired : w.tag g = .retired (t + ms s.opts.storeTimeout) := by
          rw [hw]
          exact (State.tag_tagged g g _ _).trans (if_pos rfl)
        rw [State.tag_of_goesOn after.tags (by rw [retired]; exact fun tx h => nomatch h), retired]
      · rw [hw]; rfl
      · rw [hw]; rfl
      · rw [hw]; rfl
      · exact (after.down (by rw [hw]; exact many) (by rw [hw]; exact up)).1
  · rw [exec_tagRetirementEnd, retired]
    exact congrArg Host.Outcome.next (if_congr (reached_iff t time) rfl rfl)
  · rw [exec_tagRetirementEnd]
    cases here : s.tag g with
    | free | busy => rfl
    | retired time => exact absurd here (other time)
  · rw [exec_pacingHoldEnd, held]
    exact congrArg Host.Outcome.next (if_pos ((State.holdPassed_iff (s := s.atTime t) h).mpr passed))
  · rw [exec_pacingHoldEnd, held]
    refine congrArg Host.Outcome.next (if_neg ?_)
    rw [State.holdPassed_iff]
    exact Nat.not_lt.mpr running
  · rw [exec_pacingHoldEnd, none_held]
    rfl

end Sys2Proof.Machine
end

section
/-! The link follows SRDYN, and a FAILED link is probed (R93, R143, R144, R146, R147). -/

namespace Sys2Proof.Machine

variable {s : State} {g : Tag}

/-! ### TRAINING and UP -/

/-- The link stands at TRAINING and no probe decides, before the queues are emptied. -/
def State.trained (s : State) : State :=
  ({ s with store := { s.store with link := .training, trainingSince := s.now, nextProbe := none } } : State).tagsNow
    TagState.unprobed

theorem State.enterTraining_of_up (up : s.store.link = .up) (order : List Nat) :
    s.enterTraining order = s.trained.queuesFailed.recomputeGrades order := by
  unfold State.enterTraining
  rw [up]
  dsimp only
  rw [State.retireProbes_eq, State.leaveUp_eq]
  rfl

theorem State.enterTraining_of_down (down : s.store.link ≠ .up) (order : List Nat) : s.enterTraining order = s.trained := by
  unfold State.enterTraining
  dsimp only
  rw [State.retireProbes_eq]
  cases link : s.store.link with
  | up => exact absurd link down
  | failed | training => rfl

theorem State.trained_tag (g : Tag) : s.trained.tag g = (s.tag g).unprobed := State.tag_tagsNow _ g

theorem TagState.unprobed_probe {tx : Transaction} (probe : tx.owner.binding? = none) :
    TagState.unprobed (.busy tx) = .busy { tx with owner := .probe false } := by
  unfold TagState.unprobed
  dsimp only
  cases owner : tx.owner with
  | probe d => rfl
  | job | ended | removed => rw [owner] at probe; exact nomatch probe

/-- What the entry into TRAINING leaves of the store. -/
theorem State.enterTraining_store (order : List Nat) : (s.enterTraining order).store.link = .training ∧
    (s.enterTraining order).store.trainingSince = s.now ∧ (s.enterTraining order).store.nextProbe = none ∧
    (s.enterTraining order).store.failures = s.store.failures ∧ s.trained.tagsGoOn (s.enterTraining order) := by
  by_cases up : s.store.link = .up
  · rw [State.enterTraining_of_up up]
    have regraded := State.regradedTo_recomputeGrades s.trained.queuesFailed order
    have all := (State.fails_queuesFailed (s := s.trained)).trans (.of_tells (State.regradedTo_tells regraded).1)
    exact ⟨all.link, all.training, all.nextProbe, all.failures, all.tags⟩
  · rw [State.enterTraining_of_down up]
    exact ⟨rfl, rfl, rfl, rfl, State.tagsGoOn_of_eq fun _ => rfl⟩

/-! ### Probes -/

theorem State.activeBindings_head? : s.activeBindings.head? = allBindings.find? (fun b => s.isActive b) :=
  List.head?_filter

theorem State.activeBindings_head?_eq_none (h : ∀ b : BindingNo, (s.binding b).state.active = false) :
    s.activeBindings.head? = none := by
  rw [State.activeBindings_head?, List.find?_eq_none]
  intro b _
  simp [State.isActive, h b]

theorem State.activeBindings_head?_eq_some {b : BindingNo} (active : (s.binding b).state.active = true)
    (lowest : ∀ b' < b, (s.binding b').state.active = false) : s.activeBindings.head? = some b := by
  rw [State.activeBindings_head?, find?_allBindings_eq_some_iff]
  exact ⟨active, lowest⟩

theorem State.probeInFlight_iff : s.probeInFlight = true ↔ ∃ x tx, s.tag x = .busy tx ∧ tx.owner.binding? = none := by
  rw [State.probeInFlight, List.any_eq_true]
  refine exists_congr fun x => (and_iff_right (mem_allTags x)).trans ?_
  cases s.tag x with
  | free | retired => simp
  | busy tx =>
    refine decide_eq_true_iff.trans ⟨fun probe => ⟨tx, rfl, probe⟩, ?_⟩
    rintro ⟨tx', same, probe⟩
    rw [TagState.busy.inj same]
    exact probe

theorem State.pickTag_of_free (free : s.tag g = .free) : s.pickTag g = some g := if_pos (decide_eq_true free)

theorem State.pickTag_of_none_free (taken : ∀ x : Tag, s.tag x ≠ .free) : s.pickTag g = none := by
  have not_free : ∀ x, ¬ s.tagFree x = true := fun x h => taken x (of_decide_eq_true h)
  exact (if_neg (not_free g)).trans (List.find?_eq_none.mpr fun x _ => not_free x)

/-- Settles O50: SRDYN high, the end of TRAINING, and the probe times. -/
theorem linkFollowsReady : Obligations.LinkFollowsReady := by
  intro t g order s v hv
  replace hv : v = s.atTime t := hv
  subst hv
  refine ⟨⟨(s.atTime t).enterTraining order, rfl, ?_⟩, fun training past => ?_, fun early => congrArg Host.Outcome.next (if_neg ?_),
    fun time next => ⟨fun not_due => ?_, fun failed due w hw => ?_⟩, fun none_next => ?_⟩
  · obtain ⟨link, since, nextProbe, failures, tags⟩ := State.enterTraining_store (s := s.atTime t) order
    refine ⟨link, since, nextProbe, failures, fun x free => ?_, fun x tx busy probe => ?_, fun w hw => ?_⟩
    · have trained : (s.atTime t).trained.tag x = .free := by
        rw [State.trained_tag, show (s.atTime t).tag x = .free from free]
        rfl
      rw [State.tag_of_goesOn tags (by rw [trained]; exact fun tx h => nomatch h), trained]
    · have trained : (s.atTime t).trained.tag x = .busy { tx with owner := .probe false } := by
        rw [State.trained_tag, show (s.atTime t).tag x = .busy tx from busy, TagState.unprobed_probe probe]
      exact State.probe_of_goesOn tags trained rfl
    · replace hw : w = (s.atTime t).trained := hw
      subst hw
      refine ⟨fun up => ?_, fun down => State.enterTraining_of_down (s := s.atTime t) down order⟩
      rw [State.enterTraining_of_up (s := s.atTime t) up] at link ⊢
      have regraded := State.regradedTo_recomputeGrades (s.atTime t).trained.queuesFailed order
      have empty := State.down_of_regraded regraded
        (State.down_queuesFailed (s := (s.atTime t).trained) (by simp [State.trained, State.tagsNow]))
      have down := empty.downTo
      rw [link] at down
      have emptied := State.fails_queuesFailed (s := (s.atTime t).trained)
      refine ⟨down, regraded, fun b active => State.grade_of_regraded regraded ?_ b ?_⟩
      · rw [emptied.link]
        simp [State.trained, State.tagsNow]
      · rw [emptied.state]
        exact active
  · have regraded := State.regradedTo_recomputeGrades
      ({ s.atTime t with store := { s.store with link := .up, failures := 0, nextProbe := none } } : State) order
    obtain ⟨tells, -, grades⟩ := State.regradedTo_tells regraded
    refine ⟨_, congrArg Host.Outcome.next (if_pos ⟨training, past⟩), regraded, tells.linkState, tells.failures, ?_,
      fun b active => grades b active⟩
    exact tells.link.2.2.2.1
  · rintro ⟨training, past⟩
    rcases early with other | young
    · exact other training
    · exact absurd past (Nat.not_le.mpr young)
  · refine congrArg Host.Outcome.next ?_
    unfold State.probe
    rw [show (s.atTime t).store.nextProbe = some time from next]
    refine if_neg ?_
    rintro ⟨failed, due⟩
    rcases not_due with other | young
    · exact other failed
    · exact (not_reached_iff t time).mpr young due
  · have arm : exec (.probeTime t g) s = .next (if w.node = .running then
        match w.activeBindings.head? with
        | none => w.enterTraining []
        | some b =>
          if w.probeInFlight then w
          else
            match w.pickTag g with
            | none => w
            | some g => w.issue g (.probe true) false (w.binding b).terms.essenceBase []
        else w) := by
      refine congrArg Host.Outcome.next ?_
      unfold State.probe
      rw [show (s.atTime t).store.nextProbe = some time from next, hw]
      exact if_pos ⟨failed, (reached_iff t time).mpr due⟩
    have store : w.store.link = .failed := by rw [hw]; exact failed
    have tags : ∀ x, w.tag x = s.tag x := fun x => by rw [hw]; rfl
    have states : ∀ b, (w.binding b).state = (s.binding b).state := fun b => by rw [hw]; rfl
    refine ⟨fun off => ?_, fun running => ⟨fun idle => ?_, fun b active lowest => ⟨fun blocked => ?_, fun no_probe free => ?_⟩⟩⟩
    · rw [arm]
      exact congrArg _ (if_neg (by rw [hw]; exact off))
    · rw [arm]
      refine congrArg _ ((if_pos (by rw [hw]; exact running)).trans ?_)
      rw [State.activeBindings_head?_eq_none (by simpa only [states] using idle)]
      dsimp only
      rw [State.enterTraining_of_down (by rw [store]; simp), hw]
      rfl
    · rw [arm]
      refine congrArg _ ((if_pos (by rw [hw]; exact running)).trans ?_)
      rw [State.activeBindings_head?_eq_some (b := b) (by rw [states]; exact active) (by simpa only [states] using lowest)]
      dsimp only
      by_cases flying : w.probeInFlight = true
      · exact if_pos flying
      · refine (if_neg flying).trans ?_
        have taken : ∀ x, w.tag x ≠ .free := fun x => by
          rw [tags]
          exact blocked.resolve_left (fun some_probe => flying (State.probeInFlight_iff.mpr (by simpa only [tags] using some_probe))) x
        rw [State.pickTag_of_none_free taken]
    · rw [arm]
      refine congrArg _ ((if_pos (by rw [hw]; exact running)).trans ?_)
      rw [State.activeBindings_head?_eq_some (b := b) (by rw [states]; exact active) (by simpa only [states] using lowest)]
      dsimp only
      refine (if_neg fun flying => ?_).trans ?_
      · obtain ⟨x, tx, busy, probe⟩ := State.probeInFlight_iff.mp flying
        exact no_probe x tx ((tags x).symm.trans busy) probe
      · rw [State.pickTag_of_free (by rw [tags]; exact free), hw]
        rfl
  · refine congrArg Host.Outcome.next ?_
    unfold State.probe
    rw [show (s.atTime t).store.nextProbe = none from none_next]

end Sys2Proof.Machine
end

section
/-! What an abort discards (R18, R64, R149): its jobs leave the queues, its transactions go on, its users are given back and
its records are released, and nothing of another binding changes. -/

namespace Sys2Proof.Machine

variable {s u v : State} {b : BindingNo}

/-! ### The transactions in flight -/

theorem State.sameFlight_refl (s : State) : s.sameFlight s := by
  intro g
  cases s.tag g with
  | busy tx => exact ⟨tx.owner, rfl, rfl⟩
  | free | retired => rfl

theorem State.sameFlight_of_idle (h : s.sameFlight u) {g : Tag} (idle : ∀ tx, s.tag g ≠ .busy tx) : u.tag g = s.tag g := by
  have h := h g
  cases here : s.tag g with
  | busy tx => exact absurd here (idle tx)
  | free | retired => rw [here] at h; exact h

theorem State.sameFlight_of_busy (h : s.sameFlight u) {g : Tag} {tx : Transaction} (busy : s.tag g = .busy tx) :
    ∃ o : TxOwner, o.binding? = tx.owner.binding? ∧ u.tag g = .busy { tx with owner := o } := by
  have h := h g
  rw [busy] at h
  exact h

theorem State.sameFlight_of (idle : ∀ g, (∀ tx, s.tag g ≠ .busy tx) → u.tag g = s.tag g)
    (busy : ∀ g tx, s.tag g = .busy tx → ∃ o : TxOwner, o.binding? = tx.owner.binding? ∧ u.tag g = .busy { tx with owner := o }) :
    s.sameFlight u := by
  intro g
  cases here : s.tag g with
  | busy tx => exact busy g tx here
  | free => exact (idle g (by rw [here]; exact fun tx h => nomatch h)).trans here
  | retired t => exact (idle g (by rw [here]; exact fun tx h => nomatch h)).trans here

theorem State.sameFlight_trans (h : s.sameFlight u) (k : u.sameFlight v) : s.sameFlight v := by
  refine State.sameFlight_of (fun g idle => ?_) fun g tx busy => ?_
  · have same := State.sameFlight_of_idle h idle
    exact (State.sameFlight_of_idle k (by rw [same]; exact idle)).trans same
  · obtain ⟨o, binding, busy'⟩ := State.sameFlight_of_busy h busy
    obtain ⟨o', binding', busy''⟩ := State.sameFlight_of_busy k busy'
    exact ⟨o', binding'.trans binding, busy''⟩

theorem State.sameFlight_of_tags (h : u.store.tags = s.store.tags) : s.sameFlight u := by
  have same : ∀ g, u.tag g = s.tag g := fun g => congrArg (fun l : Vector TagState 8 => l[g]) h
  exact State.sameFlight_of (fun g _ => same g) fun g tx busy => ⟨tx.owner, rfl, (same g).trans busy⟩

theorem State.flies_of_sameFlight (h : s.sameFlight u) (b : BindingNo) : u.flies b ↔ s.flies b := by
  constructor
  · rintro ⟨g, tx, busy, owner⟩
    by_cases idle : ∀ tx, s.tag g ≠ .busy tx
    · exact absurd (State.sameFlight_of_idle h idle ▸ busy) (idle tx)
    · obtain ⟨tx', busy'⟩ := not_forall_not.mp idle
      obtain ⟨o, binding, same⟩ := State.sameFlight_of_busy h busy'
      rw [same] at busy
      rw [← TagState.busy.inj busy] at owner
      exact ⟨g, tx', busy', binding.symm.trans owner⟩
  · rintro ⟨g, tx, busy, owner⟩
    obtain ⟨o, binding, busy'⟩ := State.sameFlight_of_busy h busy
    exact ⟨g, _, busy', binding.trans owner⟩

theorem State.sameFlight_removeTransactions (j : Job) : s.sameFlight (s.removeTransactions j) := by
  have tag : ∀ g, (s.removeTransactions j).tag g = _ := s.updTags_tag _
  refine State.sameFlight_of (fun g idle => ?_) fun g tx busy => ?_
  · rw [tag]
    split
    · next tx busy => exact absurd busy (idle tx)
    · rfl
  · rw [tag, busy]
    dsimp only
    split
    · next k c f i owner =>
      split
      · exact ⟨.removed k c f, by rw [owner]; rfl, rfl⟩
      · exact ⟨tx.owner, rfl, rfl⟩
    · exact ⟨tx.owner, rfl, rfl⟩

/-! ### The frame table -/

theorem State.unique_of_sorted (sorted : s.sorted) {f g : FrameRecord} (hf : f ∈ s.frames) (hg : g ∈ s.frames)
    (same : f.index = g.index) : f = g := by
  have nodup : (s.frames.map FrameRecord.index).Nodup :=
    List.pairwise_map.mpr (List.Pairwise.imp (fun h => Nat.ne_of_lt h) sorted)
  exact List.inj_on_of_nodup_map nodup hf hg same

/-- Work that discards for a binding: transactions change owner, users and records go, and nothing else moves. -/
structure State.Discards (s u : State) (b : BindingNo) : Prop where
  form    : ∃ tags fr n, u = { s with store := { s.store with tags := tags }, frames := fr, freeCells := n }
  flight  : s.sameFlight u
  origin  : ∀ f ∈ u.frames, ∃ g ∈ s.frames, g.index = f.index ∧ g.binding = f.binding
  sorted  : s.sorted → u.sorted
  others  : u.frames.filter (fun f => f.binding ≠ b) = s.frames.filter (fun f => f.binding ≠ b)

namespace State.Discards

theorem refl (s : State) (b : BindingNo) : s.Discards s b :=
  ⟨⟨_, _, _, rfl⟩, s.sameFlight_refl, fun f hf => ⟨f, hf, rfl, rfl⟩, id, rfl⟩

theorem trans (h : s.Discards u b) (k : u.Discards v b) : s.Discards v b where
  form := by
    obtain ⟨tags, fr, n, rfl⟩ := h.form
    obtain ⟨tags', fr', n', rfl⟩ := k.form
    exact ⟨tags', fr', n', rfl⟩
  flight := State.sameFlight_trans h.flight k.flight
  origin f hf := by
    obtain ⟨g, hg, index, binding⟩ := k.origin f hf
    obtain ⟨e, he, index', binding'⟩ := h.origin g hg
    exact ⟨e, he, index'.trans index, binding'.trans binding⟩
  sorted := k.sorted ∘ h.sorted
  others := k.others.trans h.others

theorem foldl {α : Type} {f : State → α → State} (l : List α) (h : ∀ x ∈ l, ∀ s : State, s.sorted → s.Discards (f s x) b)
    (s : State) (sorted : s.sorted) : s.Discards (l.foldl f s) b := by
  induction l generalizing s with
  | nil => exact refl s b
  | cons x xs ih =>
    have first := h x List.mem_cons_self s sorted
    exact first.trans (ih (fun y hy => h y (List.mem_cons_of_mem _ hy)) _ (first.sorted sorted))

end State.Discards

section Touching

variable {i : Nat} (own : ∀ f ∈ s.frames, f.index = i → f.binding = b)
include own

theorem State.discards_freeFrame : s.Discards (s.freeFrame i) b := by
  unfold State.freeFrame
  split
  · exact .refl s b
  · refine ⟨⟨_, _, _, rfl⟩, State.sameFlight_of_tags rfl, fun f hf => ⟨f, (List.mem_filter.mp hf).1, rfl, rfl⟩,
      fun sorted => sorted.filter _, ?_⟩
    show (s.frames.filter (fun x => x.index ≠ i)).filter (fun f => f.binding ≠ b) = _
    rw [List.filter_filter]
    refine List.filter_congr fun f hf => ?_
    by_cases here : f.index = i
    · simp [own f hf here]
    · simp [here]

theorem State.discards_updFrame {g : FrameRecord → FrameRecord} (index : ∀ f, (g f).index = f.index)
    (binding : ∀ f, (g f).binding = f.binding) : s.Discards (s.updFrame i g) b := by
  have kept : ∀ f : FrameRecord, (if f.index = i then g f else f).index = f.index ∧
      (if f.index = i then g f else f).binding = f.binding := by
    intro f
    split
    · exact ⟨index f, binding f⟩
    · exact ⟨rfl, rfl⟩
  refine ⟨⟨_, _, _, rfl⟩, State.sameFlight_of_tags rfl, fun f hf => ?_, fun sorted => ?_, ?_⟩
  · obtain ⟨e, he, rfl⟩ := List.mem_map.mp hf
    exact ⟨e, he, (kept e).1.symm, (kept e).2.symm⟩
  · refine List.pairwise_map.mpr (List.Pairwise.imp (fun h => ?_) sorted)
    rw [(kept _).1, (kept _).1]
    exact h
  · show (s.frames.map (fun f => if f.index = i then g f else f)).filter (fun f => f.binding ≠ b) = _
    rw [List.filter_map]
    refine (congrArg _ (List.filter_congr fun f _ => ?_)).trans
      ((List.map_congr_left fun f hf => ?_).trans (List.map_id (s.frames.filter (fun f => f.binding ≠ b))))
    · rw [Function.comp, (kept f).2]
    · obtain ⟨mem, other⟩ := List.mem_filter.mp hf
      exact if_neg fun here => of_decide_eq_true other (own f mem here)

theorem State.discards_giveBack : s.Discards (s.giveBack i) b := by
  unfold State.giveBack
  split
  · exact .refl s b
  · split
    · exact State.discards_freeFrame own
    · exact State.discards_updFrame own (fun _ => rfl) fun _ => rfl

theorem State.discards_releaseFrame : s.Discards (s.releaseFrame i) b := by
  unfold State.releaseFrame
  split
  · exact .refl s b
  · split
    · exact State.discards_freeFrame own
    · exact State.discards_updFrame own (fun _ => rfl) fun _ => rfl

end Touching

theorem State.discards_giveBackOwn (sorted : s.sorted) (i : Nat) : s.Discards (s.giveBackOwn b i) b := by
  unfold State.giveBackOwn
  split
  · exact .refl s b
  · next f found =>
    obtain ⟨mem, index⟩ := State.frame?_some found
    split
    · next owned =>
      refine State.discards_giveBack fun g hg same => ?_
      rw [State.unique_of_sorted sorted hg mem (same.trans index.symm), owned]
    · exact .refl s b

theorem State.discards_tags {tags : Vector TagState 8} (flight : s.sameFlight { s with store := { s.store with tags := tags } }) :
    s.Discards { s with store := { s.store with tags := tags } } b :=
  ⟨⟨tags, s.frames, s.freeCells, rfl⟩, flight, fun f hf => ⟨f, hf, rfl, rfl⟩, id, rfl⟩

theorem State.discards_removeJob (sorted : s.sorted) {j : Job} (own : j.binding = b) : s.Discards (s.removeJob j) b := by
  unfold State.removeJob
  split
  · obtain ⟨tags, removed⟩ : ∃ tags, s.removeTransactions j = { s with store := { s.store with tags := tags } } :=
      ⟨_, State.updTags_eq_tagsNow _⟩
    have flight := State.sameFlight_removeTransactions (s := s) j
    rw [removed] at flight ⊢
    exact State.discards_tags flight
  · rw [own]
    exact State.discards_giveBackOwn sorted j.frame

/-! ### The records of the binding are released -/

/-- After a release a record of that index is RELEASED with a user still to come. -/
theorem State.frames_releaseFrame (sorted : s.sorted) (i : Nat) :
    ∀ f ∈ (s.releaseFrame i).frames, if f.index = i then f.state = .released ∧ f.users ≠ 0 else f ∈ s.frames := by
  intro f hf
  cases found : s.frame? i with
  | none =>
    rw [State.releaseFrame, found] at hf
    have other : f.index ≠ i := by simpa using List.find?_eq_none.mp found f hf
    rw [if_neg other]
    exact hf
  | some g =>
    obtain ⟨mem, index⟩ := State.frame?_some found
    rw [State.releaseFrame_of_some found] at hf
    split at hf
    · obtain ⟨mem', other⟩ := List.mem_filter.mp hf
      rw [if_neg (index ▸ of_decide_eq_true other)]
      exact mem'
    · next users =>
      obtain ⟨e, he, rfl⟩ := List.mem_map.mp hf
      by_cases here : e.index = i
      · obtain rfl : e = g := State.unique_of_sorted sorted he mem (here.trans index.symm)
        rw [if_pos here, if_pos here]
        exact ⟨rfl, users⟩
      · rw [if_neg here, if_neg here]
        exact he

/-- Every record of a list of indices is released. -/
theorem State.frames_foldl_releaseFrame (is : List Nat) : ∀ s : State, s.sorted →
    (∀ i ∈ is, ∀ f ∈ s.frames, f.index = i → f.binding = b) →
    s.Discards (is.foldl (fun s i => s.releaseFrame i) s) b ∧
    ∀ f ∈ (is.foldl (fun s i => s.releaseFrame i) s).frames,
      if f.index ∈ is then f.state = .released ∧ f.users ≠ 0 else f ∈ s.frames := by
  induction is with
  | nil => exact fun s _ _ => ⟨.refl s b, fun f hf => by simpa using hf⟩
  | cons i is ih =>
    intro s sorted own
    have first := State.discards_releaseFrame (own i List.mem_cons_self)
    obtain ⟨rest, released⟩ := ih (s.releaseFrame i) (first.sorted sorted) fun k hk f hf index => by
      obtain ⟨g, hg, index', binding⟩ := first.origin f hf
      exact binding.symm.trans (own k (List.mem_cons_of_mem _ hk) g hg (index'.trans index))
    refine ⟨first.trans rest, fun f hf => ?_⟩
    have now := released f hf
    by_cases later : f.index ∈ is
    · rw [if_pos later] at now
      rwa [if_pos (List.mem_cons_of_mem _ later)]
    · rw [if_neg later] at now
      have then_ := State.frames_releaseFrame sorted i f now
      by_cases here : f.index = i
      · rw [if_pos here] at then_
        rwa [if_pos (here ▸ List.mem_cons_self)]
      · rw [if_neg here] at then_
        rwa [if_neg fun mem => (List.mem_cons.mp mem).elim here later]

theorem State.discards_releaseAll (sorted : s.sorted) : s.Discards (s.releaseAll b) b ∧
    ∀ f ∈ (s.releaseAll b).frames, f.binding = b → f.state = .released ∧ f.users ≠ 0 := by
  have own : ∀ i ∈ (s.frames.filter (fun f => f.binding = b)).map (fun f => f.index), ∀ f ∈ s.frames, f.index = i → f.binding = b := by
    intro i hi f hf index
    obtain ⟨g, hg, rfl⟩ := List.mem_map.mp hi
    obtain ⟨mem, owned⟩ := List.mem_filter.mp hg
    rw [State.unique_of_sorted sorted hf mem index]
    exact of_decide_eq_true owned
  obtain ⟨discards, released⟩ := State.frames_foldl_releaseFrame _ s sorted own
  refine ⟨discards, fun f hf owned => ?_⟩
  have now := released f hf
  rwa [if_pos] at now
  obtain ⟨g, hg, index, binding⟩ := discards.origin f hf
  rw [← index]
  exact List.mem_map_of_mem (List.mem_filter.mpr ⟨hg, decide_eq_true (binding.trans owned)⟩)

end Sys2Proof.Machine
end

section
/-! An abort (R18, R19, R64, R149). -/

namespace Sys2Proof.Machine

variable {s : State} {b : BindingNo}

/-- A binding that is not in ARMED, RECORDING or FINISHING has the grade 0 and tells nobody (R92, R98). -/
theorem State.recomputeGrade_of_inactive (inactive : (s.binding b).state.active = false) :
    s.recomputeGrade b = s.updAcct b (fun a => { a with grade := 0 }) := by
  have grade : s.gradeOf b = 0 := if_pos (.inl inactive)
  have still : ((s.updAcct b (fun a => { a with grade := 0 })).binding b).state.active = false := by
    rw [State.updAcct, State.binding_updBinding, if_pos rfl]
    exact inactive
  have untold : (s.updAcct b (fun a => { a with grade := 0 })).offerTake b = s.updAcct b (fun a => { a with grade := 0 }) :=
    if_neg (by rw [still]; simp)
  have unchanged : (s.updAcct b (fun a => { a with grade := 0 })).evaluate b = s.updAcct b (fun a => { a with grade := 0 }) :=
    if_neg fun h => absurd (still.symm.trans h.1) (by simp)
  by_cases same : s.gradeOf b = (s.binding b).acct.grade
  · rw [State.recomputeGrade_of_fixed same, State.updAcct]
    refine (State.updBinding_of_fixed ?_).symm
    rw [grade] at same
    rw [same]
  · refine (if_neg same).trans ?_
    rw [grade, untold, unchanged]

theorem State.binding_of_bindings {u v : State} (h : u.bindings = v.bindings) (x : BindingNo) : u.binding x = v.binding x :=
  congrArg (fun l : Vector Binding 16 => l[x]) h

/-- The records of a state whose bindings are those after a change of one of them. -/
theorem State.binding_of_updBinding {u : State} {f : Binding → Binding} (h : u.bindings = (s.updBinding b f).bindings)
    (x : BindingNo) : u.binding x = if x = b then f (s.binding b) else s.binding x :=
  (State.binding_of_bindings h x).trans (s.binding_updBinding b x f)

/-- What an abort of a binding leaves, with its DONE pending no or suppressed. -/
structure State.Aborts (s u : State) (b : BindingNo) (p : DonePending) : Prop where
  form     : ∃ bs st fr n src, u = { s with bindings := bs, store := st, frames := fr, freeCells := n, sources := src }
  draining : s.flies b → u.binding b = (s.binding b).afterAbort p
  drained  : ¬ s.flies b → u.binding b = (s.binding b).afterDrain p
  others   : s.othersSame u b
  flight   : s.sameFlight u
  queue    : ∀ c : JobClass, u.store.queue c = (s.store.queue c).filter (fun j => j.binding ≠ b)
  current  : ∀ c : JobClass, u.store.current c = if u.store.queue c = [] then 0 else s.store.current c
  link     : u.store.link = s.store.link ∧ u.store.failures = s.store.failures ∧
    u.store.trainingSince = s.store.trainingSince ∧ u.store.pacing = s.store.pacing ∧ u.store.nextProbe = s.store.nextProbe
  bound    : p ≠ .suppressed ∨ s.flies b → u.sources = s.sources
  unbound  : p = .suppressed → ¬ s.flies b → u.sources = s.sources.map (fun e => e.unbind b)
  released : ∀ f ∈ u.frames, f.binding = b → f.state = .released ∧ f.users ≠ 0
  apart    : u.frames.filter (fun f => f.binding ≠ b) = s.frames.filter (fun f => f.binding ≠ b)
  sorted   : u.sorted

/-- An abort begins: the record drains and the jobs of the binding have left the queues. -/
def State.abortBegun (s : State) (b : BindingNo) (p : DonePending) : State :=
  (s.updBinding b (fun r =>
    { r with state := .draining, reason := some .aborted, donePending := p, coord := r.coord.drained,
             asm := { r.asm with base := none, slots := List.replicate Config.windowSlots (.free none) } })).dropJobsOf b

/-- The users of jobs that have left the queues, and of frames that wait for a browse decision, are given back. -/
def State.usersReturned (s : State) (b : BindingNo) (jobs : List Job) : State :=
  let v := jobs.foldl (fun s j => s.removeJob j) s
  (v.binding b).undecided.foldl (fun s i => s.giveBackOwn b i) v

theorem State.discards_usersReturned (sorted : s.sorted) {jobs : List Job} (own : ∀ j ∈ jobs, j.binding = b) :
    s.Discards (s.usersReturned b jobs) b := by
  have removed : s.Discards (jobs.foldl (fun s j => s.removeJob j) s) b :=
    .foldl (f := fun s j => s.removeJob j) jobs (fun j hj s sorted => State.discards_removeJob sorted (own j hj)) s sorted
  exact removed.trans (.foldl (f := fun s i => s.giveBackOwn b i) _ (fun i _ s sorted => State.discards_giveBackOwn sorted i) _
    (removed.sorted sorted))

/-- The jobs and frames of a binding that is aborted have been discarded, and no frame of it waits for a decision. -/
def State.abortDiscarded (s : State) (b : BindingNo) (p : DonePending) : State :=
  (((s.abortBegun b p).usersReturned b (s.store.jobs.filter (fun j => j.binding = b))).updBinding b
    (fun r => { r with undecided := [] })).releaseAll b

theorem State.abortBinding_stages (p : DonePending) : s.abortBinding b p =
    if ((s.abortDiscarded b p).recomputeGrade b).inFlightOf b then (s.abortDiscarded b p).recomputeGrade b
    else ((s.abortDiscarded b p).recomputeGrade b).drained b := rfl

/-- The discarding as one change of the record, the store and the frame table. -/
theorem State.abortDiscarded_eq (sorted : s.sorted) (p : DonePending) :
    (∃ tags fr n, s.abortDiscarded b p = { s.updBinding b (fun r => { r.afterAbort p with acct := r.acct }) with
      store := { (s.dropJobsOf b).store with tags := tags }, frames := fr, freeCells := n }) ∧
    s.sameFlight (s.abortDiscarded b p) ∧
    (∀ f ∈ (s.abortDiscarded b p).frames, f.binding = b → f.state = .released ∧ f.users ≠ 0) ∧
    (s.abortDiscarded b p).frames.filter (fun f => f.binding ≠ b) = s.frames.filter (fun f => f.binding ≠ b) ∧
    (s.abortDiscarded b p).sorted := by
  have returned := State.discards_usersReturned (s := s.abortBegun b p) (b := b)
    (jobs := s.store.jobs.filter (fun j => j.binding = b)) sorted fun j hj => of_decide_eq_true (List.mem_filter.mp hj).2
  have sorted' := returned.sorted sorted
  generalize hv : (s.abortBegun b p).usersReturned b (s.store.jobs.filter (fun j => j.binding = b)) = v at returned sorted'
  obtain ⟨discards, released⟩ := State.discards_releaseAll (s := v.updBinding b (fun r => { r with undecided := [] })) (b := b) sorted'
  have whole : s.abortDiscarded b p = (v.updBinding b (fun r => { r with undecided := [] })).releaseAll b := by
    rw [State.abortDiscarded, hv]
  rw [whole]
  refine ⟨?_, State.sameFlight_trans (State.sameFlight_trans (State.sameFlight_of_tags (u := s.abortBegun b p) rfl) returned.flight)
    discards.flight, released, discards.others.trans returned.others, discards.sorted sorted'⟩
  obtain ⟨tags, fr, n, hv'⟩ := returned.form
  obtain ⟨tags', fr', n', last⟩ := discards.form
  refine ⟨tags', fr', n', last.trans ?_⟩
  have records : (s.updBinding b (fun r =>
      { r with state := .draining, reason := some .aborted, donePending := p, coord := r.coord.drained,
               asm := { r.asm with base := none, slots := List.replicate Config.windowSlots (.free none) } })).updBinding b
      (fun r => { r with undecided := [] }) = s.updBinding b (fun r => { r.afterAbort p with acct := r.acct }) := by
    rw [State.updBinding_updBinding]
    rfl
  rw [hv', ← records]
  rfl

theorem State.aborts_abortBinding (sorted : s.sorted) (p : DonePending) : s.Aborts (s.abortBinding b p) b p := by
  obtain ⟨⟨tags, fr, n, discarded⟩, flight, released, apart, sorted'⟩ := State.abortDiscarded_eq (b := b) sorted p
  have inactive : ((s.abortDiscarded b p).binding b).state.active = false := by
    rw [State.binding_of_updBinding (s := s) (b := b) (f := fun r => { r.afterAbort p with acct := r.acct }) (by rw [discarded]),
      if_pos rfl]
    rfl
  have graded : (s.abortDiscarded b p).recomputeGrade b = { s.updBinding b (fun r => r.afterAbort p) with
      store := { (s.dropJobsOf b).store with tags := tags }, frames := fr, freeCells := n } := by
    have records : (s.updBinding b (fun r => { r.afterAbort p with acct := r.acct })).updAcct b (fun a => { a with grade := 0 }) =
        s.updBinding b (fun r => r.afterAbort p) := by
      rw [State.updAcct, State.updBinding_updBinding]
      rfl
    rw [State.recomputeGrade_of_inactive inactive, discarded, ← records]
    rfl
  rw [discarded] at flight released apart sorted'
  rw [State.abortBinding_stages, graded]
  generalize hv : ({ s.updBinding b (fun r => r.afterAbort p) with
      store := { (s.dropJobsOf b).store with tags := tags }, frames := fr, freeCells := n } : State) = v
  have flight_v : s.sameFlight v := by rw [← hv]; exact flight
  have flies : v.inFlightOf b = true ↔ s.flies b := State.inFlightOf_iff.trans (State.flies_of_sameFlight flight_v b)
  have record : ∀ x, v.binding x = if x = b then (s.binding b).afterAbort p else s.binding x :=
    State.binding_of_updBinding (f := fun r => r.afterAbort p) (by rw [← hv])
  have queue : ∀ c : JobClass, v.store.queue c = (s.store.queue c).filter (fun j => j.binding ≠ b) := by
    intro c
    rw [← hv, ← State.dropJobsOf_queue s b c]
    cases c <;> rfl
  have current : ∀ c : JobClass, v.store.current c = if v.store.queue c = [] then 0 else s.store.current c := by
    intro c
    have h := State.dropJobsOf_current s b c
    rw [← hv]
    cases c <;> exact h
  have link : v.store.link = s.store.link ∧ v.store.failures = s.store.failures ∧
      v.store.trainingSince = s.store.trainingSince ∧ v.store.pacing = s.store.pacing ∧ v.store.nextProbe = s.store.nextProbe := by
    rw [← hv]
    exact ⟨rfl, rfl, rfl, rfl, rfl⟩
  have form : ∃ bs st fr n src, v = { s with bindings := bs, store := st, frames := fr, freeCells := n, sources := src } :=
    ⟨_, _, _, _, s.sources, hv.symm⟩
  have released_v : ∀ f ∈ v.frames, f.binding = b → f.state = .released ∧ f.users ≠ 0 := by rw [← hv]; exact released
  have apart_v : v.frames.filter (fun f => f.binding ≠ b) = s.frames.filter (fun f => f.binding ≠ b) := by rw [← hv]; exact apart
  have sorted_v : v.sorted := by rw [← hv]; exact sorted'
  have sources : v.sources = s.sources := by rw [← hv]; rfl
  have others : s.othersSame v b := fun x other => (record x).trans (if_neg other)
  have aborted : v.binding b = (s.binding b).afterAbort p := (record b).trans (if_pos rfl)
  clear hv
  by_cases flying : v.inFlightOf b = true
  · rw [if_pos flying]
    exact ⟨form, fun _ => aborted, fun landed => absurd (flies.mp flying) landed, others, flight_v, queue, current, link,
      fun _ => sources, fun _ landed => absurd (flies.mp flying) landed, released_v, apart_v, sorted_v⟩
  · rw [if_neg flying]
    have landed : ¬ s.flies b := flying ∘ flies.mpr
    have pending : (v.binding b).donePending = p := by rw [aborted]; rfl
    obtain ⟨bs, st, fr, n, src, form⟩ := form
    rcases v.drained_cases b with ⟨no, drained⟩ | ⟨yes, drained⟩ | ⟨suppressed, drained⟩
    · have is_no : p = .no := pending.symm.trans no
      have record' : ∀ x, (v.drained b).binding x =
          if x = b then { (s.binding b).afterAbort p with donePending := .yes } else s.binding x := by
        intro x
        rw [drained, State.binding_updBinding, aborted]
        split
        · rfl
        · next other => exact others x other
      rw [drained] at record' ⊢
      exact ⟨⟨_, st, fr, n, src, by rw [form]; rfl⟩, fun flies => absurd flies landed,
        fun _ => ((record' b).trans (if_pos rfl)).trans (by rw [is_no]; rfl),
        fun x other => (record' x).trans (if_neg other), flight_v, queue, current, link, fun _ => sources,
        fun is_sup => absurd (is_no.symm.trans is_sup) (by simp), released_v, apart_v, sorted_v⟩
    · have is_yes : p = .yes := pending.symm.trans yes
      rw [drained]
      exact ⟨⟨bs, st, fr, n, src, form⟩, fun flies => absurd flies landed, fun _ => aborted.trans (by rw [is_yes]; rfl), others,
        flight_v, queue, current, link, fun _ => sources, fun is_sup => absurd (is_yes.symm.trans is_sup) (by simp),
        released_v, apart_v, sorted_v⟩
    · have is_sup : p = .suppressed := pending.symm.trans suppressed
      rw [drained]
      refine ⟨⟨_, st, fr, n, _, by rw [form]; rfl⟩, fun flies => absurd flies landed,
        fun _ => ?_, fun x other => ?_, flight_v, queue, current, link, ?_, fun _ _ => ?_, released_v, apart_v, sorted_v⟩
      · rw [State.becomeIdle_binding, aborted, is_sup]
        rfl
      · rw [v.becomeIdle_others b x other, others x other]
      · rintro (other | flies)
        · exact absurd is_sup other
        · exact absurd flies landed
      · rw [← sources]
        rfl

/-- Settles O36. -/
theorem abortDrains : Obligations.AbortDrains := by
  intro t station clip s ⟨running, foreign⟩ whole _
  have onLane : s.node = .running ∨ s.node = .restarting := .inl running
  have arm : exec (.abort t station clip) s = .next ((s.atTime t).abortClip clip) :=
    congrArg _ (State.receive_of_other (s := s.atTime t) onLane foreign _ _ _)
  refine ⟨fun idle => ?_, fun b named => ?_⟩
  · have none_active : (s.atTime t).activeFor clip = none := idle
    rw [arm]
    refine congrArg _ ((if_pos running).trans ?_)
    rw [none_active]
    rfl
  · have found : (s.atTime t).activeFor clip = some b := named
    have aborted : (s.atTime t).abortClip clip = (s.atTime t).abortBinding b .no := (if_pos running).trans (by rw [found])
    have aborts := State.aborts_abortBinding (s := s.atTime t) (b := b) whole.2.2 .no
    have pool := ((s.atTime t).keeps_abortBinding b .no).pool whole
    rw [aborted] at arm
    generalize (s.atTime t).abortBinding b .no = u at arm aborts pool
    obtain ⟨bs, st, fr, n, src, rfl⟩ := aborts.form
    have sources := aborts.bound (.inl (by simp))
    refine ⟨_, arm, ⟨aborts.draining, aborts.drained, fun c j hj => ?_, aborts.released⟩, aborts.others, aborts.flight,
      ⟨rfl, rfl, rfl, rfl, rfl, rfl, rfl, rfl⟩, rfl, sources, rfl, rfl, aborts.link.1, aborts.link.2.1, aborts.link.2.2.1,
      aborts.link.2.2.2.1, aborts.link.2.2.2.2, aborts.queue, aborts.current, aborts.apart, pool⟩
    rw [aborts.queue] at hj
    exact of_decide_eq_true (List.mem_filter.mp hj).2

end Sys2Proof.Machine
end

section
/-! Aborts of every binding (R2): RESTART, the end of a restart, and the entry to LISTENING (R172, R173, R179, R189, R192 to
R194). -/

namespace Sys2Proof.Machine

variable {s u v : State} {b : BindingNo}

/-! ### Every binding is aborted -/

/-- What a bound field becomes when the bindings of a list are aborted: those with nothing in flight let go of it. -/
def State.keptBound (s : State) (l : List BindingNo) (x : Option BindingNo) : Option BindingNo :=
  x.filter (fun b => !(decide (b ∈ l) && !s.inFlightOf b))

/-- What aborts of the bindings of a list leave. -/
structure State.AbortsAll (s u : State) (l : List BindingNo) : Prop where
  form     : ∃ bs st fr n src, u = { s with bindings := bs, store := st, frames := fr, freeCells := n, sources := src }
  inside   : ∀ b ∈ l, s.abortedIn u b .suppressed
  outside  : ∀ b, b ∉ l → u.binding b = s.binding b
  flight   : s.sameFlight u
  jobs     : ∀ c : JobClass, ∀ j ∈ u.store.queue c, j ∈ s.store.queue c
  link     : u.store.link = s.store.link ∧ u.store.failures = s.store.failures
  sources  : u.sources = s.sources.map (fun e => { e with bound := s.keptBound l e.bound })
  apart    : ∀ f ∈ u.frames, f.binding ∉ l → f ∈ s.frames

theorem State.keptBound_none (s : State) (l : List BindingNo) : s.keptBound l none = none := rfl

theorem State.keptBound_of_gone {l : List BindingNo} (mem : b ∈ l) (landed : ¬ s.flies b) : s.keptBound l (some b) = none := by
  simp [State.keptBound, Option.filter, mem, State.inFlightOf_iff, landed]

theorem State.keptBound_of_kept {l : List BindingNo} (kept : b ∉ l ∨ s.flies b) : s.keptBound l (some b) = some b := by
  simpa [State.keptBound, Option.filter, State.inFlightOf_iff, imp_iff_not_or] using kept

theorem State.Aborts.sources_step {l : List BindingNo} {x : BindingNo} (first : s.Aborts v x .suppressed)
    (flies : ∀ b, v.flies b ↔ s.flies b) :
    v.sources.map (fun e => { e with bound := v.keptBound l e.bound }) =
      s.sources.map (fun e => { e with bound := s.keptBound (x :: l) e.bound }) := by
  have others : ∀ b, b ≠ x ∨ s.flies b → v.keptBound l (some b) = s.keptBound (x :: l) (some b) := by
    intro b hb
    by_cases stays : b ∉ l ∨ s.flies b
    · rw [State.keptBound_of_kept (stays.imp_right (flies b).mpr), State.keptBound_of_kept]
      rcases hb with other | flying
      · exact stays.imp_left fun out mem => (List.mem_cons.mp mem).elim other out
      · exact .inr flying
    · obtain ⟨mem, landed⟩ := not_or.mp stays
      rw [State.keptBound_of_gone (not_not.mp mem) (mt (flies b).mp landed),
        State.keptBound_of_gone (List.mem_cons_of_mem _ (not_not.mp mem)) landed]
  by_cases flying : s.flies x
  · rw [first.bound (.inr flying)]
    refine List.map_congr_left fun e _ => congrArg (fun k => { e with bound := k }) ?_
    cases e.bound with
    | none => rfl
    | some b => exact others b (if h : b = x then .inr (h ▸ flying) else .inl h)
  · rw [first.unbound rfl flying, List.map_map]
    refine List.map_congr_left fun e _ => ?_
    by_cases own : e.bound = some x
    · simp only [Function.comp_apply, SourceEntry.unbind, own, if_true]
      rw [State.keptBound_of_gone List.mem_cons_self flying]
      rfl
    · simp only [Function.comp_apply, SourceEntry.unbind, if_neg own]
      refine congrArg (fun k => { e with bound := k }) ?_
      cases h : e.bound with
      | none => rfl
      | some b => exact others b (.inl fun hb => own (hb ▸ h))

theorem State.abortsAll_foldl (l : List BindingNo) : ∀ s : State, s.sorted → l.Nodup →
    s.AbortsAll (l.foldl (fun s b => s.abortBinding b .suppressed) s) l := by
  induction l with
  | nil =>
    intro s _ _
    refine ⟨⟨_, _, _, _, _, rfl⟩, fun b hb => absurd hb List.not_mem_nil, fun b _ => rfl, s.sameFlight_refl, fun c j hj => hj,
      ⟨rfl, rfl⟩, ?_, fun f hf _ => hf⟩
    have kept : ∀ x, s.keptBound [] x = x := fun x => by cases x <;> simp [State.keptBound]
    simp [kept]
  | cons x xs ih =>
    intro s sorted nodup
    obtain ⟨fresh, nodup'⟩ := List.nodup_cons.mp nodup
    have first := State.aborts_abortBinding (b := x) sorted .suppressed
    generalize hv : s.abortBinding x .suppressed = v at first
    have rest := ih v first.sorted nodup'
    rw [List.foldl_cons, hv]
    generalize xs.foldl (fun s b => s.abortBinding b .suppressed) v = u at rest
    have flies : ∀ b, v.flies b ↔ s.flies b := State.flies_of_sameFlight first.flight
    refine ⟨?_, fun b hb => ?_, fun b hb => ?_, State.sameFlight_trans first.flight rest.flight, fun c j hj => ?_,
      ⟨rest.link.1.trans first.link.1, rest.link.2.trans first.link.2.1⟩, ?_, fun f hf out => ?_⟩
    · obtain ⟨bs, st, fr, n, src, hu⟩ := rest.form
      obtain ⟨bs', st', fr', n', src', hv'⟩ := first.form
      exact ⟨bs, st, fr, n, src, by rw [hu, hv']⟩
    · rcases List.mem_cons.mp hb with rfl | later
      · have same := rest.outside b fresh
        refine ⟨fun h => same.trans (first.draining h), fun h => same.trans (first.drained h), fun c j hj => ?_,
          fun f hf own => first.released f (rest.apart f hf (own ▸ fresh)) own⟩
        have mem := rest.jobs c j hj
        rw [first.queue] at mem
        exact of_decide_eq_true (List.mem_filter.mp mem).2
      · have other : b ≠ x := fun h => fresh (h ▸ later)
        obtain ⟨draining, drained, jobs, frames⟩ := rest.inside b later
        rw [first.others b other, flies] at draining drained
        exact ⟨draining, drained, jobs, frames⟩
    · rw [List.mem_cons, not_or] at hb
      exact (rest.outside b hb.2).trans (first.others b hb.1)
    · have mem := rest.jobs c j hj
      rw [first.queue] at mem
      exact (List.mem_filter.mp mem).1
    · rw [rest.sources]
      exact first.sources_step flies
    · rw [List.mem_cons, not_or] at out
      have mem := rest.apart f hf out.2
      have mem' : f ∈ v.frames.filter (fun f => f.binding ≠ x) := List.mem_filter.mpr ⟨mem, decide_eq_true out.1⟩
      rw [first.apart] at mem'
      exact (List.mem_filter.mp mem').1

/-- Every binding that is not IDLE has been aborted, and the others are as they were. -/
theorem State.abortAll_spec (sorted : s.sorted) : s.AbortsAll s.abortAll s.busyBindings :=
  State.abortsAll_foldl _ s sorted (nodup_allBindings.filter _)

theorem State.mem_busyBindings (b : BindingNo) : b ∈ s.busyBindings ↔ (s.binding b).state ≠ .idle := by
  rw [State.busyBindings, List.mem_filter, decide_eq_true_eq]
  exact and_iff_right (mem_allBindings b)

theorem State.AbortsAll.allAborted (h : s.AbortsAll u s.busyBindings) : s.allAborted u :=
  fun b => ⟨fun idle => h.outside b fun mem => (State.mem_busyBindings b).mp mem idle,
    fun busy => h.inside b ((State.mem_busyBindings b).mpr busy)⟩

theorem State.unbinding_keptBound : s.unbinding (s.keptBound s.busyBindings) := by
  refine ⟨rfl, fun b => ⟨fun ⟨busy, landed⟩ => State.keptBound_of_gone ((State.mem_busyBindings b).mpr busy) landed,
    fun stays => State.keptBound_of_kept (stays.imp_left fun idle mem => (State.mem_busyBindings b).mp mem idle)⟩⟩

/-! ### The node restarts -/

/-- The lane after a PRESENCE has been offered on it (R176, R178). -/
def Lane.presented (l : Lane) (i : PresenceInfo) : Lane :=
  if l.openNotices.any (Notice.replaces (.presence i)) then
    { l with queue := l.locked ++ l.openNotices.map (fun q => if (Notice.presence i).replaces q then .presence i else q) }
  else if l.queue.length < 16 then l.join (.presence i)
  else l

theorem State.offer_presence (onLane : s.onLane = true) (i : PresenceInfo) :
    s.offer (.presence i) = s.updLane (fun l => l.presented i) := by
  rw [State.offer, if_pos onLane]
  by_cases waits : s.lane.openNotices.any (Notice.replaces (.presence i)) = true
  · rw [if_pos waits, State.updLane, State.updLane, Lane.presented, if_pos waits]
  · rw [if_neg waits, State.updLane, Lane.presented, if_neg waits]
    by_cases room : s.lane.queue.length < 16
    · rw [if_pos room]
      exact if_pos room
    · rw [if_neg room]
      exact (if_neg room).trans (if_pos rfl)
  nofun

/-- A PRESENCE changes the lane alone, and as it would in any state with this lane that is on the lane. -/
theorem State.announce_eq (onLane : u.onLane = true) (onLane' : s.onLane = true) (lane : u.lane = s.lane) :
    u.announce = { u with lane := { (s.offer (.presence u.presence)).lane with
      nextPresence := some (msTime u.now + ms u.opts.presence) } } := by
  rw [State.announce, State.offer_presence onLane, State.offer_presence onLane', State.updLane, State.updLane, State.updLane,
    lane]

/-- A RESTART that names the node: every binding is aborted, and the PRESENCE tells the node as it then stands. -/
theorem State.takeRestart_spec {w : State} (onLane : w.onLane = true) (lane : s.lane = w.lane) (sorted : s.sorted) :
    ∃ u, s.takeRestart = u ∧ u.node = .restarting ∧
      u.counters = { s.counters with restarts := oneMore s.counters.restarts } ∧ s.allAborted u ∧ s.sameFlight u ∧
      (∃ kept, s.unbinding kept ∧ u.sources = s.sources.map (fun e => { e with bound := kept e.bound })) ∧
      u.ports = s.ports ∧ u.opts = s.opts ∧ u.house = s.house ∧ u.browse = s.browse ∧
      u.store.link = s.store.link ∧ u.store.failures = s.store.failures ∧ u.now = s.now ∧
      u.lane = { (w.offer (.presence u.presence)).lane with
        nextPresence := some (msTime s.now + ms s.opts.presence) } := by
  have aborts := State.abortAll_spec
    (s := { s with node := .restarting }.updCounters (fun c => { c with restarts := bump c.restarts 1 })) sorted
  rw [State.takeRestart]
  generalize State.abortAll _ = v at aborts ⊢
  have aborted : s.allAborted v := aborts.allAborted
  obtain ⟨bs, st, fr, n, src, hv⟩ := aborts.form
  refine ⟨_, rfl, ?_⟩
  rw [State.announce_eq (u := v) (s := w) (by rw [hv]; rfl) onLane (by rw [hv]; exact lane)]
  subst hv
  exact ⟨rfl, rfl, aborted, aborts.flight, ⟨_, s.unbinding_keptBound, aborts.sources⟩, rfl, rfl, rfl, rfl, aborts.link.1,
    aborts.link.2, rfl, rfl⟩

theorem State.flightless_iff : s.flightless ↔ s.inFlight = false := by
  simp only [State.flightless, State.inFlight, List.any_eq_false]
  constructor
  · intro landed g _ busy
    split at busy
    · next tx h => exact landed g tx h
    · exact absurd busy (by decide)
  · intro landed g tx h
    have := landed g (mem_allTags g)
    rw [h] at this
    exact this rfl

/-- Every binding of a list becomes IDLE. -/
theorem State.foldl_becomeIdle (l : List BindingNo) : ∀ s : State, l.Nodup → ∃ bs src,
    l.foldl (fun s b => s.becomeIdle b) s = { s with bindings := bs, sources := src } ∧
      ∀ b, (l.foldl (fun s b => s.becomeIdle b) s).binding b = if b ∈ l then (s.binding b).afterIdle else s.binding b := by
  induction l with
  | nil => exact fun s _ => ⟨_, _, rfl, fun b => (if_neg List.not_mem_nil).symm⟩
  | cons x xs ih =>
    intro s nodup
    obtain ⟨fresh, nodup'⟩ := List.nodup_cons.mp nodup
    obtain ⟨bs, src, form, records⟩ := ih (s.becomeIdle x) nodup'
    refine ⟨bs, src, form.trans ?_, fun b => (records b).trans ?_⟩
    · rw [s.becomeIdle_eq x]
    · by_cases own : b = x
      · subst own
        rw [if_neg fresh, if_pos List.mem_cons_self, s.becomeIdle_binding]
      · rw [s.becomeIdle_others x b own]
        simp [own]

/-- The notice queue after the PRESENCE that ends a restart: behind the notice in SENDING, or alone. -/
theorem Lane.presented_clearAtRestart (l : Lane) (i : PresenceInfo) :
    l.clearAtRestart.presented i = { l with
      queue := (if l.tx = .sending then l.queue.take 1 else []) ++ [.presence i]
      attempts := 0
      tx := if l.tx = .sending then .sending else .defer
      lastAttempt := decide (l.tx = .sending) } := by
  by_cases sending : l.tx = .sending
  · have cleared : l.clearAtRestart = { l with queue := l.queue.take 1, attempts := 0, lastAttempt := true } := by
      rw [Lane.clearAtRestart, if_pos sending, Lane.locked, if_pos sending]
    have short : (l.queue.take 1).length < 16 := by rw [List.length_take]; omega
    rw [cleared, Lane.presented, Lane.openNotices, if_pos sending]
    dsimp only
    rw [List.drop_take_self, if_neg (by simp), if_pos short]
    simp [Lane.join, sending]
  · have cleared : l.clearAtRestart = { l with queue := [], attempts := 0, tx := .idle, lastAttempt := false } := by
      rw [Lane.clearAtRestart, if_neg sending]
    rw [cleared]
    simp [Lane.presented, Lane.openNotices, Lane.join, sending]

/-- The end of a restart: the node is empty but for the counters and what its bindings keep, and tells it. -/
theorem State.endRestart_spec :
    ∃ u, s.endRestart = u ∧
      u = { s with
        node := .running, sources := [], frames := [], freeCells := 16384
        bindings := u.bindings
        store := { s.store with
          live := [], fill := [], browse := [], currentLive := 0, currentFill := 0, currentBrowse := 0 }
        browse := { s.browse with occupancy := 0 }
        lane := { s.lane with
          queue := (if s.lane.tx = .sending then s.lane.queue.take 1 else []) ++ [.presence u.presence]
          attempts := 0
          tx := if s.lane.tx = .sending then .sending else .defer
          lastAttempt := decide (s.lane.tx = .sending)
          nextPresence := some (msTime s.now + ms s.opts.presence) } } ∧
      ∀ b : BindingNo, u.binding b = if (s.binding b).state = .idle then s.binding b else (s.binding b).afterIdle := by
  obtain ⟨bs, src, idled, records⟩ := State.foldl_becomeIdle s.busyBindings s (nodup_allBindings.filter _)
  refine ⟨_, rfl, ?_⟩
  rw [State.endRestart]
  rw [idled] at records ⊢
  dsimp only
  rw [State.announce, State.offer_presence rfl, State.updLane, State.updLane]
  refine ⟨?_, fun b => (records b).trans ?_⟩
  · rw [Lane.presented_clearAtRestart]
    rfl
  · by_cases idle : (s.binding b).state = .idle
    · rw [if_pos idle, if_neg fun mem => (State.mem_busyBindings b).mp mem idle]
    · rw [if_neg idle, if_pos ((State.mem_busyBindings b).mpr idle)]

/-- Settles O39: a RESTART of this node aborts every binding and tells the node, and its end leaves the node empty. -/
theorem nodeRestarts : Obligations.NodeRestarts := by
  intro t station target s
  refine ⟨fun other => ⟨fun running own whole _ => ?_, fun away => ?_⟩, fun restarting landed => ?_, fun stays => ?_⟩
  · have arm : exec (.restart t station target) s = .next (s.atTime t).takeRestart :=
      congrArg _ ((State.receive_of_other (s := s.atTime t) (.inl running) other _ _ _).trans
        (if_pos ⟨running, decide_eq_true own⟩))
    obtain ⟨u, hu, spec⟩ := (s.atTime t).takeRestart_spec (w := s) (State.onLane_iff.mpr (.inl running)) rfl whole.2.2
    exact ⟨u, arm.trans (congrArg _ hu), spec⟩
  · have onLane : s.node = .running ∨ s.node = .restarting := away.symm.imp And.left id
    refine congrArg _ ((State.receive_of_other (s := s.atTime t) onLane other _ _ _).trans (if_neg fun ⟨running, own⟩ => ?_))
    rcases away with restarting | ⟨_, named⟩
    · exact absurd (running.symm.trans restarting) (by decide)
    · exact named (of_decide_eq_true own)
  · obtain ⟨u, hu, form, records⟩ := (s.atTime t).endRestart_spec
    exact ⟨u, congrArg _ ((if_pos ⟨restarting, State.flightless_iff.mp landed⟩).trans hu), form, records⟩
  · exact congrArg _ (if_neg fun ⟨restarting, landed⟩ =>
      stays.elim (fun h => h restarting) (fun h => h (State.flightless_iff.mpr landed)))

end Sys2Proof.Machine
end

section
/-! The entry to LISTENING: a twin station or an invalid option record (R33, R172, R173, R189, R192). -/

namespace Sys2Proof.Machine

variable {s u : State}

/-! ### The node withdraws -/

theorem State.darkenPorts_port (s : State) (p : PortNo) : s.darkenPorts.port p = (s.port p).darken := by
  have folded := foldl_updPort_port (fun _ => Port.darken) (l := allPorts) (by decide) s p
  exact folded.trans (if_pos (mem_allPorts p))

theorem State.darkenPorts_frame : s.darkenPorts = { s with
    ports := s.darkenPorts.ports, sources := s.sources.map (fun e => { e with ports := 0 }) } := by
  have frame := foldl_updPort_frame (fun _ => Port.darken) allPorts s
  rw [State.darkenPorts, frame]

theorem State.enterListening_withdrawn (sorted : s.sorted) : s.withdrawn s.enterListening ∧ s.enterListening.now = s.now := by
  have aborts := State.abortAll_spec (s := { s with node := .listening, fltn := true }) sorted
  rw [State.enterListening]
  generalize State.abortAll _ = v at aborts ⊢
  have aborted : s.allAborted v := aborts.allAborted
  have ports : ∀ p : PortNo, v.darkenPorts.ports[p] = (v.port p).darken := v.darkenPorts_port
  rw [State.darkenPorts_frame]
  generalize v.darkenPorts.ports = ps at ports ⊢
  obtain ⟨bs, st, fr, n, src, rfl⟩ := aborts.form
  refine ⟨⟨rfl, rfl, aborted, aborts.flight, ports, ⟨_, s.unbinding_keptBound, ?_⟩, rfl, aborts.link.1, aborts.link.2, rfl,
    rfl, rfl, rfl, rfl⟩, rfl⟩
  exact (congrArg (List.map _) aborts.sources).trans (by rw [List.map_map]; rfl)

/-! ### What reaches the lane -/

/-- The node's own number is on the frame: it is the echo of the frame it drives, or a twin's. -/
theorem State.ownEcho_iff (kind : Byte) (body : List Byte) : s.ownEcho s.opts.station kind body = true ↔
    ∃ n rest, s.lane.tx = .sending ∧ s.lane.queue = n :: rest ∧ n.kind = kind ∧ n.body = body := by
  unfold State.ownEcho
  constructor
  · intro echo
    split at echo
    · next n sending head =>
      obtain ⟨rest, queue⟩ := List.head?_eq_some_iff.mp head
      obtain ⟨-, hk, hb⟩ := of_decide_eq_true echo
      exact ⟨n, rest, sending, queue, hk.symm, hb.symm⟩
    · exact absurd echo (by decide)
  · rintro ⟨n, rest, sending, queue, rfl, rfl⟩
    rw [sending, queue]
    simp

theorem State.receive_own {kind : Byte} {body : List Byte} (onLane : s.node = .running ∨ s.node = .restarting)
    (deliver : State → State) :
    ((∃ n rest, s.lane.tx = .sending ∧ s.lane.queue = n :: rest ∧ n.kind = kind ∧ n.body = body) →
      s.receive s.opts.station kind body deliver = s) ∧
    (¬ (∃ n rest, s.lane.tx = .sending ∧ s.lane.queue = n :: rest ∧ n.kind = kind ∧ n.body = body) →
      s.receive s.opts.station kind body deliver = s.enterListening) := by
  have on := State.onLane_iff.mpr onLane
  refine ⟨fun echo => ?_, fun twin => ?_⟩
  · exact (if_pos on).trans (if_pos ((s.ownEcho_iff kind body).mpr echo))
  · exact (if_pos on).trans ((if_neg (mt (s.ownEcho_iff kind body).mp twin)).trans (if_pos rfl))

/-- A notice that comes as a command of its own is received with its station, kind and body. -/
theorem exec_of_noticeOf {c : Instr} {t : Time} {x : Station} {kind : Byte} {body : List Byte} (time : c.time? = some t)
    (notice : noticeOf c = some (x, kind, body)) (s : State) :
    ∃ deliver : State → State, exec c s = .next ((s.atTime t).receive x kind body deliver) := by
  cases c <;> simp only [noticeOf, Option.some.injEq, Prod.mk.injEq, reduceCtorEq] at notice <;>
    obtain ⟨rfl, rfl, rfl⟩ := notice <;> cases time <;> exact ⟨_, rfl⟩

/-- Settles O40: the node's own number on a frame that is not its echo, and an invalid record, lead to LISTENING. -/
theorem nodeWithdraws : Obligations.NodeWithdraws := by
  intro c t s time whole _
  have left := (s.atTime t).enterListening_withdrawn whole.2.2
  refine ⟨fun kind body onLane comes => ?_, fun bytes load loading invalid => ?_⟩
  · have received : ∃ deliver : State → State,
        exec c s = .next ((s.atTime t).receive s.opts.station kind body deliver) := by
      rcases comes with notice | ⟨rfl, fits, allowed⟩
      · exact exec_of_noticeOf time notice s
      · exact ⟨_, congrArg _ (State.hearUndelivered_intact (s := s.atTime t) onLane (hear_wireFrame fits allowed))⟩
    obtain ⟨deliver, arm⟩ := received
    obtain ⟨echo, twin⟩ := State.receive_own (s := s.atTime t) (kind := kind) (body := body) onLane deliver
    exact ⟨fun own => arm.trans (congrArg _ (echo own)),
      fun other => ⟨_, arm.trans (congrArg _ (twin other)), left⟩⟩
  · subst load
    have bad : ¬ optionsValid bytes.toList = true := fun valid => by
      obtain ⟨crc, station⟩ := of_decide_eq_true valid
      exact invalid.elim (fun h => h crc) station
    have arm : exec (.optionLoad t bytes) s = .next (s.atTime t).enterListening :=
      congrArg Host.Outcome.next ((if_pos loading).trans (if_neg bad))
    exact ⟨_, arm, left⟩

end Sys2Proof.Machine
end

section
/-! An immediate stop (R15): what ends above a lowered E, and the whole window closed at once. -/

namespace Sys2Proof.Machine

variable {s : State} {b : BindingNo}

/-! ### Gaps above E (R80) -/

/-- A joined range starts where one of the ranges does. -/
theorem joinRanges_start {l : List (Nat × Nat)} : ∀ q ∈ joinRanges l, ∃ r ∈ l, r.1 = q.1 := by
  induction l with
  | nil => exact fun q hq => nomatch hq
  | cons r rs ih =>
    intro q hq
    unfold joinRanges at hq
    cases joined : joinRanges rs with
    | nil =>
      rw [joined] at hq
      exact ⟨r, List.mem_cons_self, congrArg Prod.fst (List.mem_singleton.mp hq).symm⟩
    | cons x xs =>
      rw [joined] at hq ih
      have later : ∀ y ∈ x :: xs, ∃ z ∈ r :: rs, z.1 = y.1 := fun y hy =>
        (ih y hy).imp fun z ⟨mem, start⟩ => ⟨List.mem_cons_of_mem r mem, start⟩
      replace hq : q ∈ if r.2 = x.1 then (r.1, x.2) :: xs else r :: x :: xs := hq
      by_cases touch : r.2 = x.1
      · rw [if_pos touch] at hq
        rcases List.mem_cons.mp hq with rfl | rest
        · exact ⟨r, List.mem_cons_self, rfl⟩
        · exact later q (List.mem_cons_of_mem x rest)
      · rw [if_neg touch] at hq
        rcases List.mem_cons.mp hq with rfl | rest
        · exact ⟨_, List.mem_cons_self, rfl⟩
        · exact later q rest

/-- Ranges that start at or above E hand no gap. -/
theorem State.handGaps_above {ranges : List (Nat × Nat)}
    (above : ∀ r ∈ ranges, (s.binding b).effEnd ≤ startOf (s.binding b).terms (min r.1 (2 ^ 31))) : s.handGaps b ranges = s := by
  have fixed : ∀ l : List (Nat × Nat), (∀ q ∈ l, (s.binding b).effEnd ≤ startOf (s.binding b).terms (min q.1 (2 ^ 31))) →
      l.foldl (fun s r => s.ownGap b (ownedRun (s.binding b).terms (s.binding b).effEnd r.1 r.2).1
        (ownedRun (s.binding b).terms (s.binding b).effEnd r.1 r.2).2) s = s := by
    intro l
    induction l with
    | nil => exact fun _ => rfl
    | cons q qs ih =>
      intro high
      have first : s.ownGap b (ownedRun (s.binding b).terms (s.binding b).effEnd q.1 q.2).1
          (ownedRun (s.binding b).terms (s.binding b).effEnd q.1 q.2).2 = s := by
        rw [State.ownGap_ownedRun, min_eq_right (high q List.mem_cons_self)]
        exact State.ownGap_of_le (min_le_right _ _)
      rw [List.foldl_cons, first]
      exact ih fun x hx => high x (List.mem_cons_of_mem q hx)
  refine fixed _ fun q hq => ?_
  obtain ⟨r, mem, start⟩ := joinRanges_start q hq
  exact start ▸ above r mem

/-! ### The held frames of a binding that ends -/

theorem State.held_changeView (s : State) (b : BindingNo) (view : Station) :
    ((s.changeView b view).binding b).coord.held ⊆ (s.binding b).coord.held := by
  by_cases own : view = s.opts.station
  · subst own
    rw [State.changeView_of_own, State.held_of_told (State.told_promote _ b), State.updCoord, State.binding_updBinding, if_pos rfl]
    exact List.nil_subset _
  · have same : ((s.viewed b view).binding b).coord.held = (s.binding b).coord.held := by
      rw [State.viewed, State.held_of_told (State.told_offerTake _ b), State.binding_updBinding, if_pos rfl]
      rfl
    rw [s.changeView_of_other b own, same]
    exact List.Subset.refl _

theorem State.held_recomputeGrade (s : State) (b : BindingNo) :
    ((s.recomputeGrade b).binding b).coord.held ⊆ (s.binding b).coord.held := by
  have evaluated : ∀ v : State, ((v.evaluate b).binding b).coord.held ⊆ (v.binding b).coord.held := by
    intro v
    unfold State.evaluate
    split
    · exact v.held_changeView b _
    · exact List.Subset.refl _
  by_cases fixed : s.gradeOf b = (s.binding b).acct.grade
  · rw [State.recomputeGrade_of_fixed fixed]
    exact List.Subset.refl _
  · rw [State.recomputeGrade_of_changed fixed]
    refine List.Subset.trans (evaluated _) ?_
    rw [State.held_of_told (State.told_offerTake _ b), State.updAcct, State.binding_updBinding, if_pos rfl]
    exact List.Subset.refl _

theorem State.held_outcomesTaken (os : List Closure) :
    ((s.outcomesTaken b os).binding b).coord.held ⊆ (s.binding b).coord.held := by
  unfold State.outcomesTaken
  induction os generalizing s with
  | nil => exact List.Subset.refl _
  | cons o os ih =>
    refine List.Subset.trans ih (List.Subset.trans (State.held_recomputeGrade _ b) ?_)
    rw [State.binding_updBinding, if_pos rfl]
    exact List.Subset.refl _

theorem State.told_handGaps (ranges : List (Nat × Nat)) : (s.handGaps b ranges).told = s.told :=
  State.told_foldl _ (fun s _ => s.told_ownGap b _ _) _

theorem State.count_coord (s : State) (b : BindingNo) (c : BindingCounter) (n : Nat) :
    ((s.count b c n).binding b).coord = (s.binding b).coord := by
  unfold State.count
  split
  · rw [State.binding_updBinding, if_pos rfl]
  · rfl

theorem State.held_closeSlots (cs : List (Nat × Closure)) :
    ((s.closeSlots b cs []).binding b).coord.held ⊆ (s.binding b).coord.held := by
  have taken : s.closeSlots b cs [] =
      (((cs.foldl (fun s c => s.closeSlot b c.1 c.2) s).count b .unseen 0).outcomesTaken b (cs.map Prod.snd)).handGaps b
        ((cs.filter (fun c => c.2.isGap)).map (fun c => ((s.binding b).baseDelta + c.1, (s.binding b).baseDelta + c.1 + 1)) ++
          []) := by
    unfold State.closeSlots State.outcomesTaken
    rw [List.foldl_map]
    rfl
  obtain ⟨counts, closed⟩ := State.foldl_closeSlot_binding (s := s) (b := b) cs
  rw [taken, State.held_of_told (State.told_handGaps _)]
  refine List.Subset.trans (State.held_outcomesTaken _) ?_
  rw [State.count_coord, closed]
  exact List.Subset.refl _

/-! ### Held frames at or above E are released (R14) -/

theorem State.heldEnded_binding (s : State) (b : BindingNo) (e : Nat) (x : BindingNo) : (s.heldEnded b e).binding x =
    if x = b then { s.binding b with coord := { (s.binding b).coord with
      held := (s.binding b).coord.held.filter (fun h => h.position < e) } } else s.binding x := by
  have released : ∀ (hs : List Held) (v : State), (hs.foldl (fun v h => v.releaseFrame h.frame) v).bindings = v.bindings := by
    intro hs
    induction hs with
    | nil => exact fun _ => rfl
    | cons h hs ih => exact fun v => (ih _).trans (v.releaseFrame_bindings h.frame)
  exact State.binding_of_updBinding (released _ _) x

theorem State.Frees.sorted {u : State} (h : s.Frees u) (sorted : s.sorted) : u.sorted :=
  List.pairwise_map.mp ((List.pairwise_map.mpr sorted : (s.frames.map FrameRecord.index).Pairwise (· < ·)).sublist h.records)

theorem State.frees_heldEnded (s : State) (b : BindingNo) (e : Nat) : s.Frees (s.heldEnded b e) :=
  (s.frees_updBinding b _).trans (.foldl (fun s (h : Held) => s.frees_releaseFrame h.frame) _ _)

theorem State.releaseAbove_eq (e : Nat) : s.releaseAbove b e = s.heldEnded b e := rfl

/-! ### The record after closures -/

/-- What closures, gaps and the release of frames leave of a binding: its terms and ends; its held frames get fewer. -/
structure State.EndsBelow (s u : State) (b : BindingNo) : Prop where
  terms   : (u.binding b).terms = (s.binding b).terms
  effEnd  : (u.binding b).effEnd = (s.binding b).effEnd
  stopPos : (u.binding b).stopPos = (s.binding b).stopPos
  base    : (u.binding b).asm.base = (s.binding b).asm.base
  held    : (u.binding b).coord.held ⊆ (s.binding b).coord.held

theorem State.EndsBelow.trans {u v : State} (h : s.EndsBelow u b) (h' : u.EndsBelow v b) : s.EndsBelow v b :=
  ⟨h'.terms.trans h.terms, h'.effEnd.trans h.effEnd, h'.stopPos.trans h.stopPos, h'.base.trans h.base,
    List.Subset.trans h'.held h.held⟩

theorem State.endsBelow_heldEnded (s : State) (b : BindingNo) (e : Nat) : s.EndsBelow (s.heldEnded b e) b := by
  have read := (s.heldEnded_binding b e b).trans (if_pos rfl)
  exact ⟨by rw [read], by rw [read], by rw [read], by rw [read], by rw [read]; exact List.filter_subset_self _⟩

theorem State.endsBelow_closeSlots (s : State) (b : BindingNo) (cs : List (Nat × Closure)) :
    s.EndsBelow (s.closeSlots b cs []) b := by
  obtain ⟨counts, record⟩ := State.closeSlots_recording (s := s) (b := b) cs
  exact ⟨(Binding.terms_of_recording record).trans (Binding.withOutcomes_terms _ _),
    (Binding.effEnd_of_recording record).trans (Binding.withOutcomes_effEnd _ _),
    (Binding.stopPos_of_recording record).trans (Binding.withOutcomes_stopPos _ _),
    (congrArg Assembly.base ((Binding.asm_of_recording record).trans (Binding.withOutcomes_asm _ _))).trans rfl,
    State.held_closeSlots cs⟩

theorem State.closeSlots_state (s : State) (b : BindingNo) (cs : List (Nat × Closure)) :
    ((s.closeSlots b cs []).binding b).state = (s.binding b).state ∧
      ((s.closeSlots b cs []).binding b).reason = (s.binding b).reason := by
  obtain ⟨counts, record⟩ := State.closeSlots_recording (s := s) (b := b) cs
  exact ⟨(Binding.state_of_recording record).trans (Binding.withOutcomes_state _ _),
    (Binding.reason_of_recording record).trans (Binding.withOutcomes_reason _ _)⟩

theorem State.closeSlots_asm (s : State) (b : BindingNo) (test : Nat → Slot → Option Closure) :
    ((s.closeSlots b (closuresOf test 0 (s.binding b).asm.slots) []).binding b).asm =
      { (s.binding b).asm with slots := (s.binding b).asm.slots.mapIdx (closedBy test) } := by
  obtain ⟨counts, record⟩ := State.closeSlots_recording (s := s) (b := b) (closuresOf test 0 (s.binding b).asm.slots)
  have windows := foldl_set_closuresOf test [] (s.binding b).asm.slots
  simp only [List.length_nil, List.nil_append, Nat.zero_add] at windows
  rw [windows] at record
  exact (Binding.asm_of_recording record).trans (Binding.withOutcomes_asm _ _)

theorem State.enterFinishing_state (s : State) (b : BindingNo) (reason : FinishReason) :
    s.EndsBelow (s.enterFinishing b reason) b ∧ ((s.enterFinishing b reason).binding b).state = .finishing ∧
      ((s.enterFinishing b reason).binding b).reason = some reason := by
  have read := State.finishing_binding (s := s) (b := b) (some reason)
  have first : s.EndsBelow (s.finishing b (some reason)) b :=
    ⟨by rw [read], by rw [read], by rw [read], by rw [read], by rw [read]; exact List.Subset.refl _⟩
  cases base : (s.binding b).asm.base with
  | none => rw [State.enterFinishing_of_no_base base]; exact ⟨first, by rw [read], by rw [read]⟩
  | some n =>
    obtain ⟨state, why⟩ := State.closeSlots_state (s.finishing b (some reason)) b (closuresOf freeUnseen 0 (s.binding b).asm.slots)
    rw [State.enterFinishing_of_base base]
    exact ⟨first.trans (State.endsBelow_closeSlots _ b _), state.trans (by rw [read]), why.trans (by rw [read])⟩

/-- The FREE slots of a binding with a base close UNSEEN at its entry to FINISHING, and the others stay. -/
theorem State.enterFinishing_asm {n : FrameCount} (base : (s.binding b).asm.base = some n) (reason : FinishReason) :
    ((s.enterFinishing b reason).binding b).asm =
      { (s.binding b).asm with slots := unseenClosed (s.binding b).asm.slots } := by
  have read := State.finishing_binding (s := s) (b := b) (some reason)
  obtain ⟨counts, record⟩ := State.closeSlots_recording (s := s.finishing b (some reason)) (b := b)
    (closuresOf freeUnseen 0 (s.binding b).asm.slots)
  rw [read] at record
  dsimp only at record
  rw [foldl_set_freeUnseen, ← State.enterFinishing_of_base base] at record
  exact (Binding.asm_of_recording record).trans (Binding.withOutcomes_asm _ _)

theorem State.closeSlots_nil (laws : s.Closes b) : s.closeSlots b [] [] = s := State.count_zero laws

/-- A binding without a FREE slot enters FINISHING and nothing else happens. -/
theorem State.enterFinishing_of_no_free {n : FrameCount} (laws : s.Closes b) (base : (s.binding b).asm.base = some n)
    (taken : closuresOf freeUnseen 0 (s.binding b).asm.slots = []) (reason : FinishReason) :
    s.enterFinishing b reason = s.finishing b (some reason) := by
  have read := State.finishing_binding (s := s) (b := b) (some reason)
  have laws' : (s.finishing b (some reason)).Closes b :=
    ⟨by rw [read]; rfl, by rw [read]; exact laws.incomplete, by rw [read]; exact laws.unseen⟩
  rw [State.enterFinishing_of_base base, taken]
  exact State.closeSlots_nil laws'

theorem State.frees_countClosure (o : Closure) : s.Frees (s.countClosure b o) := by
  cases o with
  | skipped k => exact .refl s
  | complete | incomplete | unseen => exact State.frees_count _ b _ 1

theorem State.closeSlot_frame?_none {i f : Nat} {d : Time} (filling : (s.binding b).asm.slots[i]? = some (.filling f d))
    (o : Closure) : (s.closeSlot b i o).frame? f = none := by
  have freed : (s.freeFrame f).frame? f = none := by
    cases here : s.frame? f with
    | none =>
      have ignored : s.freeFrame f = s := by
        unfold State.freeFrame
        rw [here]
      rw [ignored, here]
    | some g =>
      rw [State.freeFrame_of_some here]
      refine List.find?_eq_none.mpr fun x hx => ?_
      simpa [FrameRecord.index_of_frame? here] using (List.mem_filter.mp hx).2
  have closed : s.closeSlot b i o = ((s.freeFrame f).setSlot b i (.closed o)).countClosure b o := by
    unfold State.closeSlot
    rw [show s.slot? b i = some (.filling f d) from filling]
  have slot : (s.freeFrame f).Frees ((s.freeFrame f).setSlot b i (.closed o)) := .of_eq rfl rfl
  rw [closed]
  exact (slot.trans (State.frees_countClosure o)).frame?_none freed

/-- The frame of a slot that closes is freed. -/
theorem State.foldl_closeSlot_frame?_none {i f : Nat} {d : Time} (cs : List (Nat × Closure)) (distinct : (cs.map Prod.fst).Nodup)
    (closes : i ∈ cs.map Prod.fst) (filling : (s.binding b).asm.slots[i]? = some (.filling f d)) :
    (cs.foldl (fun s c => s.closeSlot b c.1 c.2) s).frame? f = none := by
  induction cs generalizing s with
  | nil => exact nomatch closes
  | cons c cs ih =>
    obtain ⟨fresh, distinct⟩ := List.nodup_cons.mp distinct
    rw [List.foldl_cons]
    by_cases here : c.1 = i
    · subst here
      have rest : (s.closeSlot b c.1 c.2).Frees (cs.foldl (fun s c => s.closeSlot b c.1 c.2) (s.closeSlot b c.1 c.2)) :=
        .foldl (fun s (c : Nat × Closure) => State.frees_closeSlot c.1 c.2) cs _
      exact rest.frame?_none (State.closeSlot_frame?_none filling c.2)
    · obtain ⟨counts, closed⟩ := s.closeSlot_binding b c.1 c.2
      refine ih distinct ((List.mem_cons.mp closes).resolve_left fun same => here same.symm) ?_
      rw [closed]
      dsimp only
      rw [List.getElem?_set_ne here]
      exact filling

theorem State.closeSlots_frame?_none {test : Nat → Slot → Option Closure} {i f : Nat} {d : Time}
    (filling : (s.binding b).asm.slots[i]? = some (.filling f d)) (closes : (test i (.filling f d)).isSome = true) :
    (s.closeSlots b (closuresOf test 0 (s.binding b).asm.slots) []).frame? f = none := by
  obtain ⟨o, ho⟩ := Option.isSome_iff_exists.mp closes
  have mem : i ∈ (closuresOf test 0 (s.binding b).asm.slots).map Prod.fst := by
    rw [closuresOf_eq]
    refine List.mem_map.mpr ⟨(i, o), List.mem_filterMap.mpr ⟨(.filling f d, i), ?_, by rw [ho]; rfl⟩, rfl⟩
    rw [List.mk_mem_zipIdx_iff_getElem?]
    exact filling
  have closed := State.foldl_closeSlot_frame?_none (s := s) (b := b) _ (closuresOf_nodup test 0 _) mem filling
  have taken : ∀ v : State,
      v.Frees ((closuresOf test 0 (s.binding b).asm.slots).foldl (fun s c => s.takeClosure b c.2) v) :=
    fun v => .foldl (fun s (c : Nat × Closure) => s.frees_takeClosure b c.2) _ v
  exact (((State.frees_count _ b _ _).trans (taken _)).trans (State.frees_handGaps _ b _)).frame?_none closed

/-! ### The whole window closes at once (R15) -/

theorem isOpen_of_frame {x : Slot} {f : Nat} (h : x.frame? = some f) : x.isOpen = true := by
  cases x with
  | filling => rfl
  | free | skipped | closed => exact nomatch h

/-- The outcome that an immediate stop gives a slot (R15). -/
def stopOf (x : Slot) : Option Closure :=
  if x.isOpen then some (.skipped .beyond) else if x.outcome = some .unseen then some .unseen else none

theorem stopOutcome_eq (i : Nat) (x : Slot) : stopOutcome i x = stopOf x := by
  cases x <;> rfl

theorem closedBy_stopOutcome (i : Nat) (x : Slot) : closedBy stopOutcome i x = x.stopped := by
  cases x <;> rfl

theorem mem_closingSlots {test : Nat → Slot → Option Closure} {xs : List Slot} {x : Slot} :
    x ∈ closingSlots test 0 xs ↔ ∃ i, xs[i]? = some x ∧ (test i x).isSome = true := by
  unfold closingSlots
  constructor
  · intro mem
    obtain ⟨⟨y, i⟩, hy, rfl⟩ := List.mem_map.mp mem
    obtain ⟨here, closes⟩ := List.mem_filter.mp hy
    exact ⟨i, List.mk_mem_zipIdx_iff_getElem?.mp here, closes⟩
  · rintro ⟨i, here, closes⟩
    exact List.mem_map.mpr ⟨(x, i), List.mem_filter.mpr ⟨List.mk_mem_zipIdx_iff_getElem?.mpr here, closes⟩, rfl⟩

/-- Two lists of slots free the same frames when the same slots of them hold one. -/
theorem holdsFrame_congr {gone gone' : List Slot} (same : ∀ x f, x.frame? = some f → (x ∈ gone ↔ x ∈ gone')) (f : FrameRecord) :
    holdsFrame gone f = holdsFrame gone' f := by
  rw [Bool.eq_iff_iff, holdsFrame, holdsFrame, List.any_eq_true, List.any_eq_true]
  exact exists_congr fun x => and_congr_left fun named => same x f.index (of_decide_eq_true named)

theorem closuresOf_stopOutcome_snd (k : Nat) (xs : List Slot) : (closuresOf stopOutcome k xs).map Prod.snd = xs.filterMap stopOf := by
  rw [closuresOf_snd]
  induction xs generalizing k with
  | nil => rfl
  | cons x xs ih => rw [List.zipIdx_cons, List.filterMap_cons, List.filterMap_cons, ih (k + 1), stopOutcome_eq]

theorem countP_stopOf (xs : List Slot) :
    (xs.filterMap stopOf).countP (fun o => o = .incomplete) = 0 ∧
      (xs.filterMap stopOf).countP (fun o => o = .unseen) = xs.countP (fun x => x.outcome = some .unseen) := by
  rw [List.countP_filterMap, List.countP_filterMap, List.countP_eq_zero]
  refine ⟨fun x _ => ?_, List.countP_congr fun x _ => ?_⟩
  · cases x <;> simp [stopOf, Slot.isOpen, Slot.outcome]
  · cases x <;> simp [stopOf, Slot.isOpen, Slot.outcome]

/-- Of the outcomes of an immediate stop none is INCOMPLETE, and one is UNSEEN for each FREE slot. -/
theorem closuresOf_stopOutcome_counts (xs : List Slot) :
    ((closuresOf stopOutcome 0 xs).filter (fun c => c.2 = .incomplete)).length = 0 ∧
      ((closuresOf stopOutcome 0 xs).filter (fun c => c.2 = .unseen)).length = freeSlots xs := by
  have counts : ∀ o : Closure, ((closuresOf stopOutcome 0 xs).filter (fun c => c.2 = o)).length =
      (xs.filterMap stopOf).countP (fun c => c = o) := by
    intro o
    rw [← closuresOf_stopOutcome_snd 0, List.countP_map, List.countP_eq_length_filter]
    rfl
  rw [counts, counts, freeSlots, ← List.countP_eq_length_filter]
  exact countP_stopOf xs

/-- The closures of an immediate stop as one change: the base of the window starts at or above E, so that no gap is handed. -/
theorem State.closeSlots_stopOutcome {n : FrameCount} (laws : s.Closes b) (sorted : s.sorted)
    (base : (s.binding b).asm.base = some n)
    (above : (s.binding b).effEnd ≤ startOf (s.binding b).terms (min ((s.binding b).deltaOf n) (2 ^ 31))) :
    s.closeSlots b (closuresOf stopOutcome 0 (s.binding b).asm.slots) [] =
      (s.slotsClosed b ((s.binding b).asm.slots.filter Slot.isOpen) ((s.binding b).asm.slots.map Slot.stopped) 0
        (freeSlots (s.binding b).asm.slots)).outcomesTaken b ((s.binding b).asm.slots.filterMap stopOf) := by
  have closed := State.closeSlots_closuresOf stopOutcome laws (.inl sorted) (by
    intro i x o found
    cases x <;> simp [stopOutcome] at found <;> simp [← found])
  obtain ⟨incomplete, unseen⟩ := closuresOf_stopOutcome_counts (s.binding b).asm.slots
  have freed := fun f => holdsFrame_congr (gone := closingSlots stopOutcome 0 (s.binding b).asm.slots)
    (gone' := (s.binding b).asm.slots.filter Slot.isOpen) (f := f) fun x i named => by
      rw [mem_closingSlots, List.mem_filter, isOpen_of_frame named, and_iff_left rfl, List.mem_iff_getElem?]
      exact exists_congr fun j => and_iff_left (by rw [stopOutcome_eq, stopOf, isOpen_of_frame named]; rfl)
  have window : (s.binding b).asm.slots.mapIdx (closedBy stopOutcome) = (s.binding b).asm.slots.map Slot.stopped :=
    List.ext_getElem (by simp) fun i _ _ => by rw [List.getElem_mapIdx, List.getElem_map, closedBy_stopOutcome]
  rw [closed, incomplete, unseen, window, closuresOf_stopOutcome_snd, State.slotsClosed_congr freed]
  have record := State.recordings_outcomesTaken (s := s.slotsClosed b ((s.binding b).asm.slots.filter Slot.isOpen)
    ((s.binding b).asm.slots.map Slot.stopped) 0 (freeSlots (s.binding b).asm.slots)) (b := b)
    ((s.binding b).asm.slots.filterMap stopOf)
  rw [State.slotsClosed_binding] at record
  refine State.handGaps_above fun r hr => ?_
  obtain ⟨c, -, rfl⟩ := List.mem_map.mp hr
  rw [(Binding.terms_of_recording record).trans (Binding.withOutcomes_terms _ _),
    (Binding.effEnd_of_recording record).trans (Binding.withOutcomes_effEnd _ _), Binding.baseDelta_of_base base]
  exact above.trans (startOf_mono _ (min_le_min_right _ (Nat.le_add_right _ _)))

/-- What an immediate stop makes of a binding before its work ends: it lowers the stop position, E and the own through. -/
def State.loweredTo (s : State) (b : BindingNo) (p e : Nat) : State :=
  s.updBinding b (fun q =>
    { q with stopPos := p, effEnd := e, coord := { q.coord with ownThrough := min q.coord.ownThrough e } })

theorem State.lowerStop_eq (p : Nat) : s.lowerStop b p =
    s.loweredTo b (min (s.binding b).stopPos p) (min (s.binding b).terms.clipLength (min (s.binding b).stopPos p)) :=
  State.updBinding_congr rfl

theorem State.loweredTo_binding (p e : Nat) : (s.loweredTo b p e).binding b =
    { s.binding b with
      stopPos := p
      effEnd := e
      coord := { (s.binding b).coord with ownThrough := min (s.binding b).coord.ownThrough e } } := by
  rw [State.loweredTo, State.binding_updBinding, if_pos rfl]

end Sys2Proof.Machine
end

section
/-! An immediate stop closes the whole window (R15). -/

namespace Sys2Proof.Machine

variable {s : State} {b : BindingNo}

theorem BindingState.recording_or_finishing {x : BindingState} (active : x.active = true) (taken : x ≠ .armed) :
    x = .recording ∨ x = .finishing := by
  cases x <;> simp [BindingState.active] at active taken ⊢

/-- A STOP of another station in RUNNING stops the active binding that has the clip. -/
theorem State.stopClip_of_active {clip : Clip} (running : s.node = .running) (here : s.activeFor clip = some b) (p : Nat) :
    s.stopClip clip p = if p = 16777215 then s.stopNow b else s.stopAt b p := by
  rw [State.stopClip, if_pos running, here]
  rfl

theorem State.stopClip_of_none {clip : Clip} (running : s.node = .running) (here : s.activeFor clip = none) (p : Nat) :
    s.stopClip clip p = s := by
  rw [State.stopClip, if_pos running, here]

theorem Binding.incomplete_of_recording {r q : Binding} (h : r.recording = q.recording) :
    r.counters.incomplete = q.counters.incomplete := (congrArg (fun x => x.counters.incomplete) h :)

theorem closuresOf_freeUnseen_stopped (xs : List Slot) : closuresOf freeUnseen 0 (xs.map Slot.stopped) = [] := by
  rw [closuresOf_freeUnseen, List.filter_eq_nil_iff.mpr, List.map_nil]
  intro x hx
  obtain ⟨y, -, hy⟩ := List.mem_map.mp (List.fst_mem_of_mem_zipIdx hx)
  rw [← hy]
  cases y <;> simp [Slot.stopped, Slot.outcome]

/-- The state of an immediate stop in which the window has closed, before the binding enters FINISHING (R15). -/
def State.stoppedWindow (s : State) (b : BindingNo) (p e : Nat) : State :=
  (((s.loweredTo b p e).heldEnded b e).slotsClosed b ((s.binding b).asm.slots.filter Slot.isOpen)
    ((s.binding b).asm.slots.map Slot.stopped) 0 (freeSlots (s.binding b).asm.slots)).outcomesTaken b
    ((s.binding b).asm.slots.filterMap stopOf)

/-- The record of a binding whose whole window an immediate stop has closed, but for its accounting and coordination (R15). -/
def Binding.windowStopped (r : Binding) (p e : Nat) : Binding :=
  { r with
    stopPos := p
    effEnd := e
    asm := { r.asm with slots := r.asm.slots.map Slot.stopped }
    counters := { r.counters with
      incomplete := min 65535 (r.counters.incomplete + 0)
      unseen := min 65535 (r.counters.unseen + freeSlots r.asm.slots) } }

theorem State.stoppedWindow_recording (p e : Nat) : ((s.stoppedWindow b p e).binding b).recording =
    (((s.binding b).windowStopped p e).withOutcomes ((s.binding b).asm.slots.filterMap stopOf)).recording := by
  refine (State.recordings_outcomesTaken _).trans (Binding.withOutcomes_recording ?_ _)
  rw [State.slotsClosed_binding, State.heldEnded_binding, if_pos rfl, State.loweredTo_binding]
  rfl

theorem State.stopNow_of_base {n : FrameCount} (gathering : (s.binding b).state = .recording ∨ (s.binding b).state = .finishing)
    (base : (s.binding b).asm.base = some n) (bounded : (s.binding b).countersBounded) (sorted : s.sorted) {p e : Nat}
    (hp : p = min (s.binding b).stopPos (startOf (s.binding b).terms (min ((s.binding b).deltaOf n) (2 ^ 31))))
    (he : e = min (s.binding b).terms.clipLength p) :
    s.stopNow b = (s.stoppedWindow b p e).updBinding b (fun q => { q with
      state := .finishing, reason := if (s.binding b).state = .recording then some .stopped else (s.binding b).reason }) := by
  have active := BindingState.active_of_recording_or_finishing gathering
  have read := (s.loweredTo b p e).heldEnded_binding b e b
  rw [if_pos rfl, State.loweredTo_binding] at read
  have closed := State.closeSlots_stopOutcome (s := (s.loweredTo b p e).heldEnded b e) (n := n)
    (.of_bounded (by rw [read]; exact active) (by rw [read]; exact bounded))
    (((s.loweredTo b p e).frees_heldEnded b e).sorted sorted) (by rw [read]; exact base) (by
      rw [read, he, hp]
      exact (min_le_right _ _).trans (min_le_right _ _))
  rw [read] at closed
  have first : s.lowerStop b ((s.binding b).slotStart 0) = s.loweredTo b p e := by
    rw [State.lowerStop_eq, he, hp, Binding.slotStart, Binding.baseDelta_of_base base]
    rfl
  have effEnd : ((s.loweredTo b p e).binding b).effEnd = e := by rw [State.loweredTo_binding]
  have window : ((s.lowerStop b ((s.binding b).slotStart 0)).releaseAbove b
      ((s.lowerStop b ((s.binding b).slotStart 0)).binding b).effEnd).closeSlots b (closuresOf stopOutcome 0
        (((s.lowerStop b ((s.binding b).slotStart 0)).releaseAbove b
          ((s.lowerStop b ((s.binding b).slotStart 0)).binding b).effEnd).binding b).asm.slots) [] = s.stoppedWindow b p e := by
    rw [first, effEnd, State.releaseAbove_eq, read]
    exact closed
  have based : (s.binding b).asm.base.isSome = true := by rw [base]; rfl
  have record := State.stoppedWindow_recording (s := s) (b := b) p e
  have state := (Binding.state_of_recording record).trans (Binding.withOutcomes_state _ _)
  have asm := (Binding.asm_of_recording record).trans (Binding.withOutcomes_asm _ _)
  rcases gathering with recording | finishing
  · have whole : s.stopNow b = (s.stoppedWindow b p e).enterFinishing b .stopped := by
      rw [State.stopNow]
      simp only [recording, if_pos based, window, if_true]
    have laws : (s.stoppedWindow b p e).Closes b := by
      have counts := Binding.withOutcomes_counters ((s.binding b).windowStopped p e) ((s.binding b).asm.slots.filterMap stopOf)
      exact ⟨by rw [state]; exact active,
        ((Binding.incomplete_of_recording record).trans (congrArg BindingCounters.incomplete counts)).trans_le (min_le_left _ _),
        ((Binding.unseen_of_recording record).trans (congrArg BindingCounters.unseen counts)).trans_le (min_le_left _ _)⟩
    rw [whole, State.enterFinishing_of_no_free laws (by rw [asm]; exact base) (by rw [asm]; exact closuresOf_freeUnseen_stopped _),
      recording, if_pos rfl]
    rfl
  · have whole : s.stopNow b = s.stoppedWindow b p e := by
      rw [State.stopNow]
      simp only [finishing, if_pos based, window, reduceCtorEq, if_false]
    rw [whole, finishing, if_neg (by simp)]
    refine (State.updBinding_of_fixed ?_).symm
    have reason := (Binding.reason_of_recording record).trans (Binding.withOutcomes_reason _ _)
    have kept : ∀ q : Binding, q.state = .finishing → q.reason = (s.binding b).reason →
        { q with state := .finishing, reason := (s.binding b).reason } = q := by
      intro q hs hr
      rw [← hs, ← hr]
    exact kept _ (state.trans finishing) reason

/-- Settles O35: an ARMED binding finishes at 0; a window closes at once, and none of its closures lies below the new E. -/
theorem stopAtOnce : Obligations.StopAtOnce := by
  intro t station clip s hears
  have arm : exec (.immediateStop t station clip) s = .next ((s.atTime t).stopClip clip 16777215) :=
    congrArg _ (State.receive_of_other (s := s.atTime t) (.inl hears.1) hears.2 _ _ _)
  refine ⟨fun unheld => ?_, fun b r held hr => ?_⟩
  · rw [arm, State.stopClip_of_none (s := s.atTime t) hears.1 unheld]
    rfl
  rw [State.stopClip_of_active (s := s.atTime t) hears.1 held, if_pos rfl] at arm
  subst hr
  refine ⟨fun armed baseless => ?_, fun finishing baseless => ?_, fun n e e' free gathering base bounded whole _ he he' hfree => ?_⟩
  · have stopped : (s.atTime t).stopNow b = ((s.atTime t).lowerStop b 0).enterFinishing b .stopped := by
      rw [State.stopNow]
      simp only [State.atTime_binding, armed]
    rw [arm, stopped, State.lowerStop_eq, State.enterFinishing_of_no_base (by rw [State.loweredTo_binding]; exact baseless),
      State.finishing, State.loweredTo, State.updBinding_updBinding]
    simp only [Nat.min_zero]
  · have stopped : (s.atTime t).stopNow b = s.atTime t := by
      rw [State.stopNow]
      simp only [State.atTime_binding, finishing, baseless, Option.isSome_none, Bool.false_eq_true, if_false]
    rw [arm, stopped]
    rfl
  · have stopped := State.stopNow_of_base (s := s.atTime t) gathering base bounded whole.2.2 (p := min (s.binding b).stopPos e)
      (e := e') (by rw [he]; rfl) he'
    have record := State.stoppedWindow_recording (s := s.atTime t) (b := b) (min (s.binding b).stopPos e) e'
    have working := State.worksOn_stopNow (s.atTime t) b
    have held_frames : (((s.atTime t).stoppedWindow b (min (s.binding b).stopPos e) e').binding b).coord.held ⊆
        (s.binding b).coord.held.filter (fun h => h.position < e') := by
      refine List.Subset.trans (State.held_outcomesTaken _) ?_
      rw [State.slotsClosed_binding, State.heldEnded_binding, if_pos rfl, State.loweredTo_binding]
      exact List.Subset.refl _
    have gone : ∀ f d, .filling f d ∈ (s.binding b).asm.slots →
        ((s.atTime t).stoppedWindow b (min (s.binding b).stopPos e) e').frame? f = none := fun f d mem =>
      (State.frees_outcomesTaken _).frame?_none (State.slotsClosed_frame?_none (List.mem_filter.mpr ⟨mem, rfl⟩) rfl _ _ _)
    refine ⟨_, arm, ?_⟩
    rw [stopped] at working ⊢
    refine ⟨?_, working, ?_⟩
    · rw [hfree]
      rfl
    generalize (s.atTime t).stoppedWindow b (min (s.binding b).stopPos e) e' = w at record held_frames gone ⊢
    rw [State.binding_updBinding, if_pos rfl]
    refine ⟨fun h mem => of_decide_eq_true (List.mem_filter.mp (held_frames mem)).2, rfl, rfl, ?_, ?_, ?_, ?_, gone⟩
    · exact (Binding.stopPos_of_recording record).trans (Binding.withOutcomes_stopPos _ _)
    · exact ((Binding.effEnd_of_recording record).trans (Binding.withOutcomes_effEnd _ _)).trans he'
    · exact (Binding.asm_of_recording record).trans (Binding.withOutcomes_asm _ _)
    · exact (Binding.unseen_of_recording record).trans (congrArg BindingCounters.unseen (Binding.withOutcomes_counters _ _))

end Sys2Proof.Machine
end

section
/-! A STOP with a position (R13, R14): what ends above the lowered E, and the end of a recording. -/

namespace Sys2Proof.Machine

variable {s : State} {b : BindingNo}

/-! ### The closures at or above E (R14) -/

theorem beyondAt_eq (r : Binding) (e i : Nat) (x : Slot) : beyondAt r e i x =
    if x.isOpen && decide (e ≤ r.slotStart i) then some (.skipped .beyond) else none := by
  cases x <;> simp [beyondAt, Slot.isOpen]

/-- The slots that R14 ends at an effective end. -/
def Binding.ends (r : Binding) (e i : Nat) (x : Slot) : Bool := x.isOpen && decide (e ≤ r.slotStart i)

/-- The window of a binding after those slots have closed. -/
def Binding.beyondClosed (r : Binding) (e : Nat) : List Slot :=
  r.asm.slots.mapIdx (fun i x => if r.ends e i x then .closed (.skipped .beyond) else x)

/-- The slots of a binding that R14 ends, as they stood. -/
def Binding.beyondSlots (r : Binding) (e : Nat) : List Slot :=
  (r.asm.slots.zipIdx.filter (fun x => r.ends e x.2 x.1)).map Prod.fst

theorem closingSlots_beyondAt (r : Binding) (e : Nat) : closingSlots (beyondAt r e) 0 r.asm.slots = r.beyondSlots e := by
  unfold closingSlots Binding.beyondSlots
  refine congrArg _ (List.filter_congr fun x _ => ?_)
  rw [beyondAt_eq, Binding.ends]
  split
  · next h => exact h.symm
  · next h => exact ((Bool.not_eq_true _).mp h).symm

theorem closedBy_beyondAt (r : Binding) (e i : Nat) (x : Slot) :
    closedBy (beyondAt r e) i x = if r.ends e i x then .closed (.skipped .beyond) else x := by
  unfold closedBy
  rw [beyondAt_eq, Binding.ends]
  split
  · next h => 
    split at h
    · next ends => rw [if_pos ends, ← Option.some.inj h]
    · exact nomatch h
  · next h =>
    split at h
    · exact nomatch h
    · next stays => rw [if_neg stays]

theorem mapIdx_closedBy_beyondAt (r : Binding) (e : Nat) :
    r.asm.slots.mapIdx (closedBy (beyondAt r e)) = r.beyondClosed e :=
  List.ext_getElem (by simp [Binding.beyondClosed]) fun i _ _ => by
    simp only [Binding.beyondClosed, List.getElem_mapIdx, closedBy_beyondAt]

theorem mem_closuresOf_beyondAt {r : Binding} {e : Nat} {xs : List Slot} {c : Nat × Closure}
    (h : c ∈ closuresOf (beyondAt r e) 0 xs) : c.2 = .skipped .beyond := by
  rw [closuresOf_eq, List.mem_filterMap] at h
  obtain ⟨x, -, found⟩ := h
  rw [beyondAt_eq] at found
  split at found
  · exact (congrArg Prod.snd (Option.some.inj found)).symm
  · exact nomatch found

theorem length_closuresOf (test : Nat → Slot → Option Closure) (xs : List Slot) :
    (closuresOf test 0 xs).length = (closingSlots test 0 xs).length := by
  have slots := congrArg List.length (closuresOf_slots test [] xs)
  rwa [List.length_map, List.length_map] at slots

theorem State.Closes.outcomesTaken (h : s.Closes b) (os : List Closure) : (s.outcomesTaken b os).Closes b := by
  have record := State.recordings_outcomesTaken (s := s) (b := b) os
  have counts := Binding.withOutcomes_counters (s.binding b) os
  exact ⟨((Binding.state_of_recording record).trans (Binding.withOutcomes_state _ _)) ▸ h.active,
    ((Binding.incomplete_of_recording record).trans (congrArg BindingCounters.incomplete counts)).trans_le h.incomplete,
    ((Binding.unseen_of_recording record).trans (congrArg BindingCounters.unseen counts)).trans_le h.unseen⟩

theorem closuresOf_beyondAt_isEmpty (r : Binding) (e : Nat) :
    (!(closuresOf (beyondAt r e) 0 r.asm.slots).isEmpty) = true ↔ r.beyondSlots e ≠ [] := by
  rw [← closingSlots_beyondAt, Bool.not_eq_true', List.isEmpty_eq_false_iff, ← List.length_pos_iff, ← List.length_pos_iff,
    length_closuresOf]

/-- The closures of R14 as one change: the open slots at or above E close, and no gap is handed on. -/
theorem State.closeSlots_beyond (laws : s.Closes b) (sorted : s.sorted) (e : Nat) :
    s.closeSlots b (closuresOf (beyondAt (s.binding b) e) 0 (s.binding b).asm.slots) [] =
      (s.slotsClosed b ((s.binding b).beyondSlots e) ((s.binding b).beyondClosed e) 0 0).outcomesTaken b
        (List.replicate ((s.binding b).beyondSlots e).length (.skipped .beyond)) := by
  have closed := State.closeSlots_closuresOf (beyondAt (s.binding b) e) laws (.inl sorted) (by
    intro i x o found
    rw [beyondAt_eq] at found
    split at found
    · rw [← Option.some.inj found]; simp
    · exact nomatch found)
  have others : ∀ o : Closure, o ≠ .skipped .beyond →
      (closuresOf (beyondAt (s.binding b) e) 0 (s.binding b).asm.slots).filter (fun c => c.2 = o) = [] := fun o other =>
    List.filter_eq_nil_iff.mpr fun c hc => by rw [mem_closuresOf_beyondAt hc]; simpa using other.symm
  have gapless : (closuresOf (beyondAt (s.binding b) e) 0 (s.binding b).asm.slots).filter (fun c => c.2.isGap) = [] :=
    List.filter_eq_nil_iff.mpr fun c hc => by rw [mem_closuresOf_beyondAt hc]; simp [Closure.isGap]
  have outcomes : (closuresOf (beyondAt (s.binding b) e) 0 (s.binding b).asm.slots).map Prod.snd =
      List.replicate ((s.binding b).beyondSlots e).length (.skipped .beyond) := by
    rw [← closingSlots_beyondAt, ← length_closuresOf]
    refine List.eq_replicate_iff.mpr ⟨List.length_map _, fun o ho => ?_⟩
    obtain ⟨c, hc, rfl⟩ := List.mem_map.mp ho
    exact mem_closuresOf_beyondAt hc
  rw [closed, mapIdx_closedBy_beyondAt, others _ (by simp), others _ (by simp), gapless, outcomes, closingSlots_beyondAt]
  rfl

/-! ### What a STOP makes of the window -/

/-- The state of a STOP in which the work of the binding at or above E has ended, before any entry to FINISHING (R13, R14). -/
def State.cutTo (s : State) (b : BindingNo) (p e : Nat) : State :=
  if e < (s.binding b).effEnd then (s.loweredTo b p e).endAbove b else s.loweredTo b p e

theorem State.stopClosures_loweredTo (p e : Nat) : (s.loweredTo b p e).stopClosures b =
    if (s.binding b).asm.base.isSome then closuresOf (beyondAt (s.binding b) e) 0 (s.binding b).asm.slots else [] := by
  rw [State.stopClosures, State.loweredTo_binding]
  rfl

theorem State.endAbove_loweredTo (p e : Nat) : (s.loweredTo b p e).endAbove b =
    ((s.loweredTo b p e).heldEnded b e).closeSlots b
      (if (s.binding b).asm.base.isSome then closuresOf (beyondAt (s.binding b) e) 0 (s.binding b).asm.slots else []) [] := by
  rw [State.endAbove, State.stopClosures_loweredTo, State.releaseAbove_eq, State.loweredTo_binding]

theorem State.endAbove_of_base {n : FrameCount} (base : (s.binding b).asm.base = some n) (p e : Nat) :
    (s.loweredTo b p e).endAbove b = ((s.loweredTo b p e).heldEnded b e).closeSlots b
      (closuresOf (beyondAt (s.binding b) e) 0 (s.binding b).asm.slots) [] := by
  rw [State.endAbove_loweredTo, base]
  rfl

/-- A binding whose stop position has been lowered, with the held frames below E. -/
theorem State.heldEnded_loweredTo_binding (p e : Nat) : ((s.loweredTo b p e).heldEnded b e).binding b =
    { s.binding b with
      stopPos := p
      effEnd := e
      coord := { (s.binding b).coord with
        ownThrough := min (s.binding b).coord.ownThrough e
        held := (s.binding b).coord.held.filter (fun h => h.position < e) } } := by
  rw [State.heldEnded_binding, if_pos rfl, State.loweredTo_binding]

theorem State.endsBelow_cutTo (p e : Nat) : (s.loweredTo b p e).EndsBelow (s.cutTo b p e) b := by
  unfold State.cutTo
  split
  · exact (State.endsBelow_heldEnded _ b e).trans (endAbove_loweredTo (s := s) p e ▸ State.endsBelow_closeSlots _ b _)
  · exact ⟨rfl, rfl, rfl, rfl, List.Subset.refl _⟩

theorem State.cutTo_state (p e : Nat) : ((s.cutTo b p e).binding b).state = (s.binding b).state ∧
    ((s.cutTo b p e).binding b).reason = (s.binding b).reason := by
  unfold State.cutTo
  split
  · obtain ⟨state, reason⟩ := State.closeSlots_state ((s.loweredTo b p e).heldEnded b e) b
      (if (s.binding b).asm.base.isSome then closuresOf (beyondAt (s.binding b) e) 0 (s.binding b).asm.slots else [])
    rw [State.heldEnded_loweredTo_binding] at state reason
    rw [State.endAbove_loweredTo]
    exact ⟨state, reason⟩
  · rw [State.loweredTo_binding]
    exact ⟨rfl, rfl⟩

/-- With a window, the open slots at or above a lowered E have closed. -/
theorem State.cutTo_asm {n : FrameCount} (base : (s.binding b).asm.base = some n) (p e : Nat) :
    ((s.cutTo b p e).binding b).asm = { (s.binding b).asm with
      slots := if e < (s.binding b).effEnd then (s.binding b).beyondClosed e else (s.binding b).asm.slots } := by
  unfold State.cutTo
  by_cases falls : e < (s.binding b).effEnd
  · have read := State.heldEnded_loweredTo_binding (s := s) (b := b) p e
    have closed := State.closeSlots_asm ((s.loweredTo b p e).heldEnded b e) b (beyondAt (s.binding b) e)
    rw [read] at closed
    rw [if_pos falls, if_pos falls, State.endAbove_of_base base, closed, ← mapIdx_closedBy_beyondAt]
  · rw [if_neg falls, if_neg falls, State.loweredTo_binding]

/-- The held frames lie below a lowered E, and the frames of the slots that close are gone. -/
theorem State.cutTo_ended {e : Nat} (falls : e < (s.binding b).effEnd) (p : Nat) :
    (∀ h ∈ ((s.cutTo b p e).binding b).coord.held, h.position < e) ∧
    ∀ n, (s.binding b).asm.base = some n → ∀ i f d, (s.binding b).asm.slots[i]? = some (.filling f d) →
      e ≤ (s.binding b).slotStart i → (s.cutTo b p e).frame? f = none := by
  have read := State.heldEnded_loweredTo_binding (s := s) (b := b) p e
  unfold State.cutTo
  rw [if_pos falls]
  refine ⟨fun h mem => ?_, fun n base i f d filling above => ?_⟩
  · rw [State.endAbove_loweredTo] at mem
    have held := (State.endsBelow_closeSlots _ b _).held mem
    rw [read] at held
    exact of_decide_eq_true (List.mem_filter.mp held).2
  · have gone := State.closeSlots_frame?_none (s := (s.loweredTo b p e).heldEnded b e) (b := b)
      (test := beyondAt (s.binding b) e) (i := i) (f := f) (d := d) (by rw [read]; exact filling)
      (by rw [beyondAt_eq, if_pos (by simpa [Slot.isOpen] using above)]; rfl)
    rw [read] at gone
    rw [State.endAbove_of_base base]
    exact gone

/-- The change of a STOP before any entry to FINISHING, as one (R13, R14). -/
theorem State.cutTo_eq {n : FrameCount} (active : (s.binding b).state.active = true) (bounded : (s.binding b).countersBounded)
    (sorted : s.sorted) (base : (s.binding b).asm.base = some n) (p e : Nat) : s.cutTo b p e =
    if e < (s.binding b).effEnd then
      (((s.loweredTo b p e).heldEnded b e).slotsClosed b ((s.binding b).beyondSlots e) ((s.binding b).beyondClosed e) 0
        0).outcomesTaken b (List.replicate ((s.binding b).beyondSlots e).length (.skipped .beyond))
    else s.loweredTo b p e := by
  have read := State.heldEnded_loweredTo_binding (s := s) (b := b) p e
  have laws : ((s.loweredTo b p e).heldEnded b e).Closes b :=
    .of_bounded (by rw [read]; exact active) (by rw [read]; exact bounded)
  have closed := State.closeSlots_beyond laws (((s.loweredTo b p e).frees_heldEnded b e).sorted sorted) e
  rw [read] at closed
  rw [State.cutTo, State.endAbove_of_base base]
  exact if_congr Iff.rfl closed rfl

theorem State.cutTo_closes {n : FrameCount} (active : (s.binding b).state.active = true) (bounded : (s.binding b).countersBounded)
    (sorted : s.sorted) (base : (s.binding b).asm.base = some n) (p e : Nat) : (s.cutTo b p e).Closes b := by
  rw [State.cutTo_eq active bounded sorted base]
  split
  · have read := State.heldEnded_loweredTo_binding (s := s) (b := b) p e
    have laws : ((s.loweredTo b p e).heldEnded b e).Closes b :=
      .of_bounded (by rw [read]; exact active) (by rw [read]; exact bounded)
    exact (laws.slotsClosed _ _ _ _).outcomesTaken _
  · exact .of_bounded (by rw [State.loweredTo_binding]; exact active) (by rw [State.loweredTo_binding]; exact bounded)

/-! ### The whole of a STOP -/

section
variable {p e : Nat} (lowers : p ≤ (s.binding b).stopPos) (he : e = min (s.binding b).terms.clipLength p)
include lowers he

theorem State.lowerStop_eq_loweredTo : s.lowerStop b p = s.loweredTo b p e := by
  rw [State.lowerStop_eq, min_eq_right lowers, he]

theorem State.stopAt_of_armed (armed : (s.binding b).state = .armed) :
    s.stopAt b p = if e = 0 then (s.loweredTo b p e).enterFinishing b .stopped else s.loweredTo b p e := by
  rw [State.stopAt, State.lowerStop_eq_loweredTo lowers he]
  dsimp only
  rw [if_neg (Nat.not_lt.mpr lowers), armed]
  dsimp only
  rw [State.loweredTo_binding]

theorem State.stopAt_of_finishing (finishing : (s.binding b).state = .finishing) : s.stopAt b p = s.cutTo b p e := by
  rw [State.stopAt, State.lowerStop_eq_loweredTo lowers he]
  dsimp only
  rw [if_neg (Nat.not_lt.mpr lowers), finishing, State.cutTo]
  dsimp only
  rw [State.loweredTo_binding]
  exact if_congr decide_eq_true_iff rfl rfl

theorem State.stopAt_of_recording (recording : (s.binding b).state = .recording) :
    s.stopAt b p =
      if e ≤ (s.binding b).slotStart 0 ∨
          e < (s.binding b).effEnd ∧ (s.binding b).asm.base.isSome = true ∧ (s.binding b).beyondSlots e ≠ [] then
        (s.cutTo b p e).enterFinishing b .stopped
      else s.cutTo b p e := by
  have cut : (if decide (((s.loweredTo b p e).binding b).effEnd < (s.binding b).effEnd) = true then
      (s.loweredTo b p e).endAbove b else s.loweredTo b p e) = s.cutTo b p e := by
    rw [State.loweredTo_binding]
    exact if_congr decide_eq_true_iff rfl rfl
  have ends := State.endsBelow_cutTo (s := s) (b := b) p e
  have ended : ((s.cutTo b p e).binding b).effEnd = e := by rw [ends.effEnd, State.loweredTo_binding]
  have start : ((s.cutTo b p e).binding b).slotStart 0 = (s.binding b).slotStart 0 := by
    rw [Binding.slotStart, Binding.slotStart, Binding.baseDelta, Binding.baseDelta, ends.terms, ends.base,
      State.loweredTo_binding]
  rw [State.stopAt, State.lowerStop_eq_loweredTo lowers he]
  dsimp only
  rw [if_neg (Nat.not_lt.mpr lowers), recording]
  dsimp only
  rw [cut, ended, start]
  refine if_congr ?_ rfl rfl
  rw [or_comm, Bool.and_eq_true, decide_eq_true_eq, State.loweredTo_binding, State.stopClosures_loweredTo]
  refine or_congr_right (and_congr_right fun _ => ?_)
  split
  · next window => exact (closuresOf_beyondAt_isEmpty _ e).trans (and_iff_right window).symm
  · next unopened => simp [unopened]

end


end Sys2Proof.Machine
end

section
/-! A STOP with a position, as a whole (R13, R14, R17). -/

namespace Sys2Proof.Machine

variable {s : State} {b : BindingNo}

/-! ### The window after a STOP -/

/-- The window after a STOP: the slots that R14 ends where E falls, and every FREE slot where the binding finishes (R14, R17). -/
def Binding.stopSlots (r : Binding) (e : Nat) (finishes : Prop) [Decidable finishes] : List Slot :=
  r.asm.slots.mapIdx (fun i x =>
    match x with
    | .free d => if finishes then .closed .unseen else .free d
    | .filling f d => if e < r.effEnd ∧ e ≤ r.slotStart i then .closed (.skipped .beyond) else .filling f d
    | .skipped k d => if e < r.effEnd ∧ e ≤ r.slotStart i then .closed (.skipped .beyond) else .skipped k d
    | .closed o => .closed o)

/-- The window of a binding after a STOP that does not finish it. -/
def Binding.cutSlots (r : Binding) (e : Nat) : List Slot := if e < r.effEnd then r.beyondClosed e else r.asm.slots

theorem Binding.cutSlots_getElem? (r : Binding) (e i : Nat) : (r.cutSlots e)[i]? =
    r.asm.slots[i]?.map (fun x => if e < r.effEnd ∧ r.ends e i x = true then .closed (.skipped .beyond) else x) := by
  unfold Binding.cutSlots
  by_cases falls : e < r.effEnd
  · rw [if_pos falls, Binding.beyondClosed, List.getElem?_mapIdx]
    simp only [falls, true_and]
  · simp [falls]

theorem Binding.stopSlots_eq (r : Binding) (e : Nat) {finishes : Prop} [Decidable finishes] :
    r.stopSlots e finishes = if finishes then unseenClosed (r.cutSlots e) else r.cutSlots e := by
  refine List.ext_getElem? fun i => ?_
  have plain : (if finishes then unseenClosed (r.cutSlots e) else r.cutSlots e)[i]? =
      (r.cutSlots e)[i]?.map (fun x => if finishes ∧ x.outcome = some .unseen then .closed .unseen else x) := by
    by_cases ends : finishes
    · rw [if_pos ends, unseenClosed, List.getElem?_map]
      simp only [ends, true_and]
    · simp [ends]
  rw [plain, Binding.cutSlots_getElem?, Binding.stopSlots, List.getElem?_mapIdx, Option.map_map]
  refine congrArg (fun f => r.asm.slots[i]?.map f) (funext fun x => ?_)
  cases x with
  | free d => simp [Binding.ends, Slot.isOpen, Slot.outcome]
  | closed o => simp [Binding.ends, Slot.isOpen, Slot.outcome]
  | filling f d =>
    by_cases ends : e < r.effEnd ∧ e ≤ r.slotStart i
    · simp [Binding.ends, Slot.isOpen, Slot.outcome, ends]
    · simp [Binding.ends, Slot.isOpen, Slot.outcome, ends]
  | skipped k d =>
    by_cases ends : e < r.effEnd ∧ e ≤ r.slotStart i
    · simp [Binding.ends, Slot.isOpen, Slot.outcome, ends]
    · simp [Binding.ends, Slot.isOpen, Slot.outcome, ends]

theorem Binding.beyondSlots_ne_nil_iff (r : Binding) (e : Nat) :
    r.beyondSlots e ≠ [] ↔ ∃ i x, r.asm.slots[i]? = some x ∧ x.open ∧ e ≤ r.slotStart i := by
  rw [← closingSlots_beyondAt, ne_eq, List.eq_nil_iff_forall_not_mem, not_forall_not]
  simp only [mem_closingSlots, beyondAt_eq]
  rw [exists_comm]
  refine exists_congr fun i => exists_congr fun x => and_congr_right fun _ => ?_
  rw [← Slot.isOpen_iff]
  cases x.isOpen <;> simp

/-! ### What a STOP leaves -/

section
variable {p e : Nat} (lowers : p ≤ (s.binding b).stopPos) (he : e = min (s.binding b).terms.clipLength p)
include lowers he

theorem State.endsBelow_stopAt (active : (s.binding b).state.active = true) :
    (s.loweredTo b p e).EndsBelow (s.stopAt b p) b := by
  have finished : ∀ v : State, (s.loweredTo b p e).EndsBelow v b →
      (s.loweredTo b p e).EndsBelow (v.enterFinishing b .stopped) b := fun v h => h.trans (v.enterFinishing_state b .stopped).1
  have still : (s.loweredTo b p e).EndsBelow (s.loweredTo b p e) b := ⟨rfl, rfl, rfl, rfl, List.Subset.refl _⟩
  have cut := State.endsBelow_cutTo (s := s) (b := b) p e
  by_cases armed : (s.binding b).state = .armed
  · rw [State.stopAt_of_armed lowers he armed]
    split
    · exact finished _ still
    · exact still
  · rcases BindingState.recording_or_finishing active armed with recording | finishing
    · rw [State.stopAt_of_recording lowers he recording]
      split
      · exact finished _ cut
      · exact cut
    · rw [State.stopAt_of_finishing lowers he finishing]
      exact cut

/-- A RECORDING binding finishes where a slot closes at or above a lowered E, or the base stands there. -/
theorem State.stopAt_recording {n : FrameCount} (recording : (s.binding b).state = .recording)
    (base : (s.binding b).asm.base = some n) :
    ((e ≤ (s.binding b).slotStart 0 ∨ e < (s.binding b).effEnd ∧ (s.binding b).beyondSlots e ≠ []) →
      s.stopAt b p = (s.cutTo b p e).enterFinishing b .stopped) ∧
    (¬ (e ≤ (s.binding b).slotStart 0 ∨ e < (s.binding b).effEnd ∧ (s.binding b).beyondSlots e ≠ []) →
      s.stopAt b p = s.cutTo b p e) := by
  have based : (s.binding b).asm.base.isSome = true := by rw [base]; rfl
  rw [State.stopAt_of_recording lowers he recording]
  simp only [based, true_and]
  exact ⟨fun ends => if_pos ends, fun stays => if_neg stays⟩

/-- What a STOP leaves of a binding with a window, whatever its counters are. -/
theorem State.stopAt_window {n : FrameCount} (taken : (s.binding b).state = .recording ∨ (s.binding b).state = .finishing)
    (base : (s.binding b).asm.base = some n) :
    ((s.binding b).state = .recording →
      ((e ≤ (s.binding b).slotStart 0 ∨ e < (s.binding b).effEnd ∧ (s.binding b).beyondSlots e ≠ []) →
        ((s.stopAt b p).binding b).state = .finishing ∧ ((s.stopAt b p).binding b).reason = some .stopped) ∧
      (¬ (e ≤ (s.binding b).slotStart 0 ∨ e < (s.binding b).effEnd ∧ (s.binding b).beyondSlots e ≠ []) →
        ((s.stopAt b p).binding b).state = .recording ∧ ((s.stopAt b p).binding b).reason = (s.binding b).reason)) ∧
    ((s.stopAt b p).binding b).asm = { (s.binding b).asm with
      slots := (s.binding b).stopSlots e ((s.binding b).state = .recording ∧ ((s.stopAt b p).binding b).state = .finishing) } ∧
    (e < (s.binding b).effEnd →
      (∀ h ∈ ((s.stopAt b p).binding b).coord.held, h.position < e) ∧
      ∀ i f d, (s.binding b).asm.slots[i]? = some (.filling f d) → e ≤ (s.binding b).slotStart i →
        (s.stopAt b p).frame? f = none) := by
  obtain ⟨state, reason⟩ := State.cutTo_state (s := s) (b := b) p e
  have asm := State.cutTo_asm base p e
  have based : ((s.cutTo b p e).binding b).asm.base = some n := by rw [asm]; exact base
  have ended := fun falls => State.cutTo_ended (s := s) (b := b) (e := e) falls p
  obtain ⟨ends, finished, stopped⟩ := (s.cutTo b p e).enterFinishing_state b .stopped
  have closed := State.enterFinishing_asm based .stopped
  have freed : (s.cutTo b p e).Frees ((s.cutTo b p e).enterFinishing b .stopped) := by
    rw [State.enterFinishing_of_base based]
    exact ((s.cutTo b p e).frees_updBinding b _).trans (State.frees_closeSlots _ _)
  rcases taken with recording | finishing
  · by_cases comes : e ≤ (s.binding b).slotStart 0 ∨ e < (s.binding b).effEnd ∧ (s.binding b).beyondSlots e ≠ []
    · rw [(State.stopAt_recording lowers he recording base).1 comes]
      refine ⟨fun _ => ⟨fun _ => ⟨finished, stopped⟩, fun stays => absurd comes stays⟩, ?_, fun falls => ?_⟩
      · rw [closed, Binding.stopSlots_eq, if_pos ⟨recording, finished⟩, asm]
        rfl
      · exact ⟨fun h mem => (ended falls).1 h (ends.held mem),
          fun i f d filling above => freed.frame?_none ((ended falls).2 n base i f d filling above)⟩
    · rw [(State.stopAt_recording lowers he recording base).2 comes]
      refine ⟨fun _ => ⟨fun ends => absurd ends comes, fun _ => ⟨state.trans recording, reason⟩⟩, ?_, fun falls =>
        ⟨(ended falls).1, (ended falls).2 n base⟩⟩
      have stays : ¬ ((s.binding b).state = .recording ∧ ((s.cutTo b p e).binding b).state = .finishing) :=
        fun h => (nomatch recording.symm.trans (state.symm.trans h.2))
      rw [asm, Binding.stopSlots_eq, if_neg stays]
      rfl
  · rw [State.stopAt_of_finishing lowers he finishing]
    refine ⟨fun recording => (nomatch finishing.symm.trans recording), ?_, fun falls =>
      ⟨(ended falls).1, (ended falls).2 n base⟩⟩
    have stays : ¬ ((s.binding b).state = .recording ∧ ((s.cutTo b p e).binding b).state = .finishing) :=
      fun h => (nomatch finishing.symm.trans h.1)
    rw [asm, Binding.stopSlots_eq, if_neg stays]
    rfl

end

/-- Settles O34: E falls with the stop position; what lies at or above it ends without a gap, and a recording that has reached
it finishes. -/
theorem stopAtPosition : Obligations.StopAtPosition := by
  intro t station clip p s hears other
  have arm : exec (.stop t station clip p) s = .next ((s.atTime t).stopClip clip p.toNat) :=
    congrArg _ (State.receive_of_other (s := s.atTime t) (.inl hears.1) hears.2 _ _ _)
  refine ⟨fun unheld => ?_, fun b r e held hr he => ?_⟩
  · rw [arm, State.stopClip_of_none (s := s.atTime t) hears.1 unheld]
    rfl
  rw [State.stopClip_of_active (s := s.atTime t) hears.1 held, if_neg other] at arm
  subst hr
  refine ⟨fun higher => arm.trans (congrArg _ (if_pos higher)), fun lowers => ?_⟩
  have active := (State.records_of_activeFor held).1
  obtain ⟨terms, effEnd, stopPos, -, -⟩ := State.endsBelow_stopAt (s := s.atTime t) lowers he active
  rw [State.loweredTo_binding] at terms effEnd stopPos
  refine ⟨_, arm, State.worksOn_stopAt (s.atTime t) b p.toNat, stopPos, effEnd, terms, fun armed => ⟨fun zero => ?_, fun more => ?_⟩,
    fun finishing => ?_, fun v hv => ⟨fun finishing baseless bounded => ?_, fun taken whole bounded _ n ends gone slots w base hends
      hgone hslots hw => ?_⟩, fun taken n at' base hat => ?_⟩
  · rw [State.stopAt_of_armed (s := s.atTime t) lowers he armed, if_pos zero]
    exact (State.enterFinishing_state _ b .stopped).2
  · rw [State.stopAt_of_armed (s := s.atTime t) lowers he armed, if_neg more]
    rfl
  · rw [State.stopAt_of_finishing (s := s.atTime t) lowers he finishing]
    exact ⟨State.cutTo_state .. |>.1.trans finishing, State.cutTo_state .. |>.2⟩
  · rw [State.stopAt_of_finishing (s := s.atTime t) lowers he finishing]
    have laws : (v.heldEnded b e).Closes b := by
      have read := State.heldEnded_loweredTo_binding (s := s.atTime t) (b := b) p.toNat e
      rw [hv]
      exact .of_bounded ((congrArg (fun q => q.state.active) read).trans active) (fun x => by
        intro mem
        refine bounded x ?_
        exact (congrArg (fun q => q.counters.list) read) ▸ mem)
    have ended : ((s.atTime t).loweredTo b p.toNat e).endAbove b = v.heldEnded b e := by
      rw [State.endAbove_loweredTo, State.atTime_binding, baseless, ← State.closeSlots_nil laws, hv]
      rfl
    rw [State.cutTo, ended, hv]
    rfl
  · have start : ∀ i, (s.binding b).slotStart i = startOf (s.binding b).terms (min ((s.binding b).deltaOf n + i) (2 ^ 31)) := by
      intro i
      rw [Binding.slotStart, Binding.baseDelta_of_base base]
      rfl
    have taken' := BindingState.recording_or_finishing active taken
    have tests : ends = (s.binding b).ends e := by
      funext i x
      rw [hends, Binding.ends, start]
    have cut : (s.atTime t).cutTo b p.toNat e = w := by
      rw [State.cutTo_eq (s := s.atTime t) active bounded whole.2.2 base, hw, hslots, hgone, hv, tests]
      rfl
    have hgone' : gone = (s.binding b).beyondSlots e := by
      rw [hgone, tests]
      rfl
    have zero : startOf (s.binding b).terms (min ((s.binding b).deltaOf n) (2 ^ 31)) = (s.binding b).slotStart 0 := (start 0).symm
    rw [zero, hgone']
    refine ⟨fun recording comes held' free hheld hfree => ?_, fun stays => ?_⟩
    · have laws : w.Closes b := cut ▸ State.cutTo_closes (s := s.atTime t) active bounded whole.2.2 base p.toNat e
      have below := cut ▸ State.endsBelow_cutTo (s := s.atTime t) (b := b) p.toNat e
      have terms' : (w.binding b).terms = (s.binding b).terms := below.terms.trans (by rw [State.loweredTo_binding]; rfl)
      have base' : (w.binding b).asm.base = some n := below.base.trans (by rw [State.loweredTo_binding]; exact base)
      have deltas : (w.binding b).deltaOf n = (s.binding b).deltaOf n := by rw [Binding.deltaOf, terms', Binding.deltaOf]
      rw [(State.stopAt_recording (s := s.atTime t) lowers he recording base).1 comes, cut,
        State.enterFinishing_eq laws base', deltas, hfree, hheld]
      rfl
    · rcases taken' with recording | finishing
      · rw [(State.stopAt_recording (s := s.atTime t) lowers he recording base).2
          (stays.resolve_left (by rw [recording]; simp)), cut]
      · rw [State.stopAt_of_finishing (s := s.atTime t) lowers he finishing, cut]
  · have start : ∀ i, at' i = (s.binding b).slotStart i := by
      intro i
      rw [hat, Binding.slotStart, Binding.baseDelta_of_base base]
      rfl
    have taken' := BindingState.recording_or_finishing active taken
    have window := State.stopAt_window (s := s.atTime t) lowers he taken' base
    simp only [start]
    rw [Binding.beyondSlots_ne_nil_iff] at window
    exact window

end Sys2Proof.Machine
end

section
/-! A RECORD that is taken (R10). -/

namespace Sys2Proof.Machine

/-! ### A pressure test offers no notice (R116) -/

section Lane

variable (s : State) (b : BindingNo)

@[simp] theorem State.giveBack_lane (i : Nat) : (s.giveBack i).lane = s.lane := by
  obtain ⟨fr, n, h⟩ := s.giveBack_spec i
  rw [h]

@[simp] theorem State.count_lane (c : BindingCounter) (n : Nat) : (s.count b c n).lane = s.lane := by
  unfold State.count
  split <;> rfl

@[simp] theorem State.report_lane (r : Run) : (s.report b r).lane = s.lane := rfl

@[simp] theorem State.insertExtent_lane (k : ExtentKind) (lo hi : Nat) : (s.insertExtent b k lo hi).lane = s.lane := rfl

@[simp] theorem State.ownGap_lane (lo hi : Nat) : (s.ownGap b lo hi).lane = s.lane := by
  unfold State.ownGap
  dsimp only
  split
  · split <;> simp
  · rfl

@[simp] theorem State.tellFailure_lane (j : Job) : (s.tellFailure j).lane = s.lane := by
  unfold State.tellFailure
  split <;> simp

@[simp] theorem State.handOver_lane (j : Job) : (s.handOver j).lane = s.lane := by
  unfold State.handOver
  split <;> simp

@[simp] theorem State.writeFrame_lane (i : Nat) (cls : JobClass) (c : BindingCounter) :
    (s.writeFrame b i cls c).lane = s.lane := by
  unfold State.writeFrame
  split
  · rfl
  · dsimp only
    split <;> simp

@[simp] theorem State.pressureTest_lane : (s.pressureTest b).lane = s.lane := by
  unfold State.pressureTest
  split
  · split
    · rfl
    · exact State.writeFrame_lane _ b _ _ _
  · rfl

end Lane

variable {s : State} {b : BindingNo}

/-! ### The pressure tests of a take (R116) -/

/-- A binding that needs no pressure test: it is at PRIMARY, holds no frame, or is not active. -/
def State.rests (s : State) (b : BindingNo) : Prop :=
  (s.binding b).coord.role = .primary ∨ (s.binding b).coord.held = [] ∨ (s.binding b).state.active = false

theorem State.pressureTest_of_rests (rests : s.rests b) : s.pressureTest b = s := by
  rcases rests with primary | none_held | inactive
  · exact State.pressureTest_of_rest (.inl primary)
  · exact State.pressureTest_of_rest (.inr (.inr none_held))
  · exact if_neg fun h => absurd ((State.isActive_iff).mp h.1) (by rw [inactive]; simp)

theorem State.tells_pressureTest (s : State) (b : BindingNo) : s.Tells (s.pressureTest b) :=
  .of_worksOn (s.worksOn_pressureTest b) (s.recordings_pressureTest b) (by
    unfold State.pressureTest
    split
    · split
      · rfl
      · exact State.tallies_writeFrame _ b _ _ _
    · rfl)

/-- Pressure tests leave the shell, the link and the sources, offer no notice, and change no binding that rests. -/
theorem State.foldl_pressureTest_spec (l : List BindingNo) : ∀ s : State,
    s.Tells (l.foldl (fun s b => s.pressureTest b) s) ∧ (l.foldl (fun s b => s.pressureTest b) s).lane = s.lane ∧
      ∀ x, s.rests x → (l.foldl (fun s b => s.pressureTest b) s).binding x = s.binding x := by
  induction l with
  | nil => exact fun s => ⟨.refl s, rfl, fun _ _ => rfl⟩
  | cons x xs ih =>
    intro s
    obtain ⟨tells, lane, resting⟩ := ih (s.pressureTest x)
    obtain ⟨-, -, -, others, -⟩ := s.worksOn_pressureTest x
    have same : ∀ y, s.rests y → (s.pressureTest x).binding y = s.binding y := by
      intro y rests
      by_cases here : y = x
      · rw [← here, State.pressureTest_of_rests rests]
      · exact others y here
    refine ⟨(s.tells_pressureTest x).trans tells, lane.trans (s.pressureTest_lane x), fun y rests => ?_⟩
    have still : (s.pressureTest x).rests y := by
      rw [State.rests, same y rests]
      exact rests
    exact (resting y still).trans (same y rests)

/-- Where every binding rests, the tests change nothing. -/
theorem State.foldl_pressureTest_of_rests (l : List BindingNo) (rests : ∀ x, s.rests x) :
    l.foldl (fun s b => s.pressureTest b) s = s := by
  induction l with
  | nil => rfl
  | cons x xs ih => rw [List.foldl_cons, State.pressureTest_of_rests (rests x), ih]

/-! ### An IDLE record that kept the clip loses it (R10) -/

/-- A record as a take of a clip leaves it (R10). -/
def Binding.forgets (r : Binding) (clip : Clip) : Binding :=
  if r.state = .idle ∧ r.clip = some clip then { r with clip := none } else r

theorem State.forgetClip_spec (clip : Clip) : ∃ bs, s.forgetClip clip = { s with bindings := bs } ∧
    ∀ x, (s.forgetClip clip).binding x = (s.binding x).forgets clip := by
  have step : ∀ (s : State) (b : BindingNo), (if (s.binding b).state = .idle ∧ (s.binding b).clip = some clip then
      s.updBinding b (fun r => { r with clip := none }) else s) = s.updBinding b (fun r => r.forgets clip) := by
    intro s b
    by_cases kept : (s.binding b).state = .idle ∧ (s.binding b).clip = some clip
    · rw [if_pos kept]
      exact State.updBinding_congr (if_pos kept).symm
    · rw [if_neg kept]
      exact (State.updBinding_of_fixed (if_neg kept)).symm
  have folded : ∀ (l : List BindingNo) (s : State), l.Nodup → ∃ bs,
      l.foldl (fun s b => s.updBinding b (fun r => r.forgets clip)) s = { s with bindings := bs } ∧
      ∀ x, (l.foldl (fun s b => s.updBinding b (fun r => r.forgets clip)) s).binding x =
        if x ∈ l then (s.binding x).forgets clip else s.binding x := by
    intro l
    induction l with
    | nil => exact fun s _ => ⟨_, rfl, fun x => (if_neg List.not_mem_nil).symm⟩
    | cons y ys ih =>
      intro s nodup
      obtain ⟨fresh, nodup'⟩ := List.nodup_cons.mp nodup
      obtain ⟨bs, form, records⟩ := ih (s.updBinding y (fun r => r.forgets clip)) nodup'
      refine ⟨bs, form, fun x => (records x).trans ?_⟩
      rw [State.binding_updBinding]
      by_cases here : x = y
      · subst here
        rw [if_neg fresh, if_pos rfl, if_pos List.mem_cons_self]
      · rw [if_neg here]
        exact if_congr (by rw [List.mem_cons, or_iff_right here]) rfl rfl
  unfold State.forgetClip
  simp only [step]
  obtain ⟨bs, form, records⟩ := folded allBindings s nodup_allBindings
  exact ⟨bs, form, fun x => (records x).trans (if_pos (mem_allBindings x))⟩

/-! ### The record starts (R2, R10) -/

/-- A state whose source entry is bound to a binding, and whose IDLE records no longer keep the clip (R10). -/
def State.claimed (s : State) (b : BindingNo) (req : Request) : State :=
  { s.forgetClip req.clip with sources := s.sources.map (fun x => x.bindTo b req.source req.stream) }

/-- A state in which a request has been taken with a grade, before its TAKE is offered (R10). -/
def State.started (s : State) (b : BindingNo) (req : Request) (g : Nat) : State :=
  (s.claimed b req).updBinding b
    (fun _ => startedBinding req g s.opts.presence s.opts.extentPeriod s.now s.house.counter)

theorem State.started_eq (s : State) (b : BindingNo) (req : Request) (g : Nat) : ∃ bs,
    s.started b req g = { s with
      bindings := bs
      sources := s.sources.map (fun x => x.bindTo b req.source req.stream) } := by
  obtain ⟨bs, form, -⟩ := s.forgetClip_spec req.clip
  rw [State.started, State.claimed, form]
  exact ⟨_, rfl⟩

theorem State.started_binding (s : State) (b : BindingNo) (req : Request) (g : Nat) (x : BindingNo) :
    (s.started b req g).binding x =
      if x = b then startedBinding req g s.opts.presence s.opts.extentPeriod s.now s.house.counter
      else (s.binding x).forgets req.clip := by
  obtain ⟨-, -, records⟩ := s.forgetClip_spec req.clip
  have kept : (s.claimed b req).binding x = (s.binding x).forgets req.clip :=
    (State.binding_of_bindings (v := s.forgetClip req.clip) (by rw [State.claimed]) x).trans (records x)
  rw [State.started, State.binding_updBinding, kept]

/-- The entry of a source is the only one of its key. -/
theorem State.entry_unique (lawful : s.tableLawful) {req : Request} {e x : SourceEntry}
    (found : s.entry? req.source req.stream = some e) (mem : x ∈ s.sources) (key : x.source = req.source ∧ x.stream = req.stream) :
    x = e := by
  obtain ⟨-, distinct, -⟩ := lawful
  have here : e.source = req.source ∧ e.stream = req.stream := by simpa using List.find?_some found
  have symmetric : Std.Symm SourceEntry.differs := ⟨fun x y => Or.imp Ne.symm Ne.symm⟩
  by_contra other
  rcases distinct.forall mem (List.mem_of_find?_eq_some found) other with source | stream
  · exact source (key.1.trans here.1.symm)
  · exact stream (key.2.trans here.2.symm)

/-- The grade of a record that starts is that of the quality code of its source (R60, R92). -/
theorem State.started_gradeOf (lawful : s.tableLawful) {req : Request} {e : SourceEntry}
    (found : s.entry? req.source req.stream = some e) (idle : (s.binding b).state = .idle) (up : s.store.link = .up) (g : Nat) :
    (s.started b req g).gradeOf b = s.opts.grades.getD e.quality.toNat 0 := by
  have record := (s.started_binding b req g b).trans (if_pos rfl)
  obtain ⟨bs, form⟩ := s.started_eq b req g
  have sources : (s.started b req g).sources = s.sources.map (fun x => x.bindTo b req.source req.stream) := by rw [form]
  have here : e.source = req.source ∧ e.stream = req.stream := by simpa using List.find?_some found
  have quality : ((s.started b req g).qualityOf b).toNat = e.quality.toNat := by
    refine State.qualityOf_toNat (fun code h => ?_) (fun _ y hy bound => ?_) fun _ => ?_
    · rw [record] at h
      exact nomatch h
    · rw [sources] at hy
      obtain ⟨x, mem, rfl⟩ := List.mem_map.mp hy
      by_cases key : x.source = req.source ∧ x.stream = req.stream
      · rw [SourceEntry.bindTo, if_pos key, State.entry_unique lawful found mem key]
      · rw [SourceEntry.bindTo, if_neg key] at bound
        obtain ⟨-, -, -, busy, -⟩ := lawful
        exact absurd idle (busy x mem b bound).1
    · rw [sources]
      refine ⟨_, List.mem_map_of_mem (List.mem_of_find?_eq_some found), ?_⟩
      rw [SourceEntry.bindTo, if_pos here]
  have link : (s.started b req g).store.link = .up := by rw [form]; exact up
  have opts : (s.started b req g).opts = s.opts := by rw [form]
  rw [State.gradeOf_of_active (by rw [record]; rfl), quality, record, link, opts]
  rfl

theorem State.takeRequest_eq (lawful : s.tableLawful) {req : Request} {e : SourceEntry}
    (found : s.entry? req.source req.stream = some e) (idle : (s.binding b).state = .idle) (up : s.store.link = .up)
    {g : Nat} (hg : g = s.opts.grades.getD e.quality.toNat 0) (order : List Nat) :
    s.takeRequest b req (clampRequest req) order =
      (arrange order ((s.started b req g).offer (.take req.clip g .settling none)).activeBindings).foldl
        (fun s b => s.pressureTest b) ((s.started b req g).offer (.take req.clip g .settling none)) := by
  have record := (s.started_binding b req g b).trans (if_pos rfl)
  have plain : { (s.forgetClip req.clip).updBinding b (fun _ => startBinding s req (clampRequest req)) with
      sources := ((s.forgetClip req.clip).updBinding b (fun _ => startBinding s req (clampRequest req))).sources.map
        (fun (e : SourceEntry) => e.bindTo b req.source req.stream) } = s.started b req 0 := by
    obtain ⟨bs, form, -⟩ := s.forgetClip_spec req.clip
    rw [State.started, State.claimed, form]
    rfl
  have graded : (s.started b req 0).updAcct b (fun a => { a with grade := (s.started b req 0).gradeOf b }) =
      s.started b req g := by
    rw [State.started_gradeOf lawful found idle up, ← hg, State.started, State.updAcct, State.updBinding_updBinding]
    rfl
  have told := State.offerTake_of_active (s := s.started b req g) (b := b) (clip := req.clip) (by rw [record]; rfl)
    (by rw [record]; rfl)
  rw [record] at told
  rw [State.takeRequest, plain, graded, told]
  rfl

/-- Settles O32: the record starts, the entry is bound and the TAKE offered; the pressure tests reach the bindings that hold
frames outside PRIMARY alone. -/
theorem recordIsTaken : Obligations.RecordIsTaken := by
  intro t station req order s e b g hears lawful considered free unbound up idle lowest hg
  have first : (s.atTime t).firstIdle = some b :=
    find?_allBindings_eq_some_iff.mpr ⟨decide_eq_true idle, fun b' hb => decide_eq_false (lowest b' hb)⟩
  have check : (s.atTime t).stateCheck req = none := by
    rw [State.stateCheck_of_free (s := s.atTime t) (req := req) free considered.2.1, if_neg (not_not.mpr unbound),
      if_neg (by rw [first]; simp)]
    exact if_neg (not_not.mpr up)
  have arm : exec (.record t station req order) s = .next ((s.atTime t).considerRecord req order) :=
    (congrArg _ (State.receive_of_other (s := s.atTime t) (.inl hears.1) hears.2 _ _ _)).trans (congrArg _ (if_pos hears.1))
  rw [State.considerRecord_of_considers (s := s.atTime t) considered, check, first] at arm
  dsimp only at arm
  rw [State.takeRequest_eq (s := s.atTime t) lawful considered.2.1 idle up hg] at arm
  obtain ⟨bs, form⟩ := (s.atTime t).started_eq b req g
  have same := State.offer_congr (s := s.atTime t) (u := (s.atTime t).started b req g) (by rw [form]; rfl) (by rw [form])
    (by rw [form]) (.take req.clip g .settling none)
  have record : ∀ x, (((s.atTime t).started b req g).offer (.take req.clip g .settling none)).binding x =
      if x = b then startedBinding req g s.opts.presence s.opts.extentPeriod t s.house.counter
      else (s.binding x).forgets req.clip :=
    fun x => (State.binding_of_bindings (by rw [same]) x).trans ((s.atTime t).started_binding b req g x)
  generalize hv : ((s.atTime t).started b req g).offer (.take req.clip g .settling none) = v at arm same record
  obtain ⟨tells, noticed, resting⟩ := State.foldl_pressureTest_spec (arrange order v.activeBindings) v
  have still := State.foldl_pressureTest_of_rests (s := v) (arrange order v.activeBindings)
  generalize (arrange order v.activeBindings).foldl (fun s b => s.pressureTest b) v = u at arm tells noticed resting still
  have own : v.binding b = startedBinding req g s.opts.presence s.opts.extentPeriod t s.house.counter :=
    (record b).trans (if_pos rfl)
  have others : ∀ x, x ≠ b → v.binding x = (s.binding x).forgets req.clip := fun x hx => (record x).trans (if_neg hx)
  rw [form] at same
  have busy_same : ∀ x, x ≠ b → (s.binding x).state ≠ .idle → v.binding x = s.binding x := fun x hx busy =>
    (others x hx).trans (if_neg fun h => busy h.1)
  have unpressed : ∀ x, x ≠ b → (s.binding x).state ≠ .idle →
      (s.binding x).coord.role = .primary ∨ (s.binding x).coord.held = [] → v.rests x := by
    intro x hx busy rests
    rw [State.rests, busy_same x hx busy]
    exact rests.imp_right .inl
  have asleep : ∀ x, x ≠ b → (s.binding x).state = .idle → v.rests x := by
    intro x hx hidle
    have state : (v.binding x).state = .idle := by
      rw [others x hx, Binding.forgets]
      split
      · exact hidle
      · exact hidle
    exact .inr (.inr (congrArg BindingState.active state))
  have starts : v.rests b := .inr (.inl (by rw [own]; rfl))
  refine ⟨u, arm, (resting b starts).trans own, fun x hx hidle => ?_, fun x hx busy rests => ?_,
    ?_, ?_, ?_, ?_, ?_, fun all => ?_⟩
  · rw [resting x (asleep x hx hidle), others x hx, Binding.forgets]
    exact if_congr (and_iff_right hidle) rfl rfl
  · exact (resting x (unpressed x hx busy rests)).trans (busy_same x hx busy)
  · rw [tells.sources, same]
    rfl
  · rw [noticed, same]
  · rw [tells.now, same]
    rfl
  · have shell := tells.shell
    rw [same] at shell
    exact shell
  · have link := tells.link
    rw [same] at link
    exact link
  · have all_rest : ∀ x, v.rests x := fun x => by
      by_cases hx : x = b
      · exact hx ▸ starts
      · by_cases hidle : (s.binding x).state = .idle
        · exact asleep x hx hidle
        · exact unpressed x hx hidle (all x hx)
    rw [still all_rest, same]
    exact ⟨rfl, rfl, rfl, rfl⟩

end Sys2Proof.Machine
end
